-- ==== Sys2Proof/Word.lean ====
section
/-!
DEFINITION. The two widths of the core and their plainest conversion (00_scope.md R5, R6): an 8-bit
value and a 16-bit value. Byte order, sign extension and field helpers stand in Decode.lean and in the
files of Machine/.
-/

namespace Sys2Proof

/-- An 8-bit value: a register, an operand byte, a byte of memory (00_scope.md R6). -/
abbrev Byte := BitVec 8

/-- A 16-bit value: an address, `PC`, a 16-bit operand (00_scope.md R6). -/
abbrev Addr := BitVec 16

/-- `zext_16(v)` of 00_scope.md R7: the byte as a 16-bit value, the same number. -/
def zext16 (v : Byte) : Addr := v.setWidth 16

end Sys2Proof
end

