-- ==== Sys2Proof/Config.lean ====
section
/-!
DEFINITION. What is fixed for one machine: the open parameters of 00_scope.md R5, which addresses the
host answers by something other than plain RAM (20_memory.md R31), and the free value of this model.
-/

namespace Sys2Proof

/-- A range of addresses, both ends included. -/
structure AddrRange where
  first : Addr
  last : Addr
deriving DecidableEq, Repr

/-- The configuration of one machine. The first six fields are the parameters of 00_scope.md R5; the
last is the model's own (log entry 5). -/
structure Config where
  /-- `BIND_TIER_S`: the 12 opcodes of tier S are bound (R5, 30_encoding.md R55). -/
  bindTierS : Bool
  /-- `ENTRY_SETS_I`: IRQ and NMI entry set `P.I` after pushing `P` (R5, 60_exceptions.md R171). -/
  entrySetsI : Bool
  /-- `NMI_VECTOR`: where NMI entry reads its vector (R5, 60_exceptions.md R172). -/
  nmiVector : Addr
  /-- `ZP_INDEX_WRAP`: the zero-page indexed sums are reduced modulo 256 (R5,
  40_execution_and_addressing.md R74). -/
  zpIndexWrap : Bool
  /-- `STORE_PREREAD`: STA, STX, STY read the target byte before writing it (R5,
  40_execution_and_addressing.md R84). -/
  storePreread : Bool
  /-- `MAX_INSTRUCTIONS`: the execution cap (R5, 60_exceptions.md R182). -/
  maxInstructions : Option Nat
  /-- The addresses whose reads the host answers with whatever it likes and whose writes it need not
  remember: device registers, open bus, memory shared with another agent (20_memory.md R31, R46).
  Every other address is plain RAM. -/
  devices : List AddrRange
deriving DecidableEq, Repr

/-- The default values of 00_scope.md R5, with all of memory plain RAM (DESIGN CHOICE, log entry 5). -/
def Config.default : Config where
  bindTierS := true
  entrySetsI := false
  nmiVector := 0xFFFE
  zpIndexWrap := true
  storePreread := false
  maxInstructions := none
  devices := []

/-- FREE VALUE. What the host answers to its `n`-th device read, made at address `a`. It has no body:
the host's answer is unconstrained (20_memory.md R31; 92_eei_decisions.md D28;
93_implementation_defined.md U14; log entry 6). -/
opaque Config.hostByte (n : Nat) (a : Addr) : Byte

end Sys2Proof
end

