-- ==== Sys2Proof/Syntax.lean ====
section
/-!
DEFINITION. The instructions as syntax: one constructor of `Instr` for each of the 152 rows of
spec/opcode_table.json (30_encoding.md R57), and `Instr.form`, the same instruction sorted by the shape
in which its family composes with its addressing mode (40_execution_and_addressing.md R83 to R85).
-/

namespace Sys2Proof

/-- The instructions: mnemonic and addressing mode in the constructor's name, the operand as its
argument (30_encoding.md R51, R57). The suffixes are Imm immediate, Acc accumulator, Zp zero-page, ZpX
and ZpY zero-page indexed, Abs absolute, AbsX and AbsY absolute indexed, IndX indexed-indirect, IndY
indirect-indexed, Ind absolute-indirect; an implied or relative instruction has none. -/
inductive Instr where
  /-- `LDA #$nn`, opcode A9, R90. -/
  | ldaImm (v : Byte)
  /-- `LDA $nn`, opcode A5, R90. -/
  | ldaZp (zp : Byte)
  /-- `LDA $nn,X`, opcode B5, R90. -/
  | ldaZpX (zp : Byte)
  /-- `LDA $nnnn`, opcode AD, R90. -/
  | ldaAbs (addr : Addr)
  /-- `LDA $nnnn,X`, opcode BD, R90. -/
  | ldaAbsX (addr : Addr)
  /-- `LDA $nnnn,Y`, opcode B9, R90. -/
  | ldaAbsY (addr : Addr)
  /-- `LDA ($nn,X)`, opcode A1, R90. -/
  | ldaIndX (zp : Byte)
  /-- `LDA ($nn),Y`, opcode B1, R90. -/
  | ldaIndY (zp : Byte)
  /-- `LDX #$nn`, opcode A2, R91. -/
  | ldxImm (v : Byte)
  /-- `LDX $nn`, opcode A6, R91. -/
  | ldxZp (zp : Byte)
  /-- `LDX $nn,Y`, opcode B6, R91. -/
  | ldxZpY (zp : Byte)
  /-- `LDX $nnnn`, opcode AE, R91. -/
  | ldxAbs (addr : Addr)
  /-- `LDX $nnnn,Y`, opcode BE, R91. -/
  | ldxAbsY (addr : Addr)
  /-- `LDY #$nn`, opcode A0, R92. -/
  | ldyImm (v : Byte)
  /-- `LDY $nn`, opcode A4, R92. -/
  | ldyZp (zp : Byte)
  /-- `LDY $nn,X`, opcode B4, R92. -/
  | ldyZpX (zp : Byte)
  /-- `LDY $nnnn`, opcode AC, R92. -/
  | ldyAbs (addr : Addr)
  /-- `LDY $nnnn,X`, opcode BC, R92. -/
  | ldyAbsX (addr : Addr)
  /-- `STA $nn`, opcode 85, R93. -/
  | staZp (zp : Byte)
  /-- `STA $nn,X`, opcode 95, R93. -/
  | staZpX (zp : Byte)
  /-- `STA $nnnn`, opcode 8D, R93. -/
  | staAbs (addr : Addr)
  /-- `STA $nnnn,X`, opcode 9D, R93. -/
  | staAbsX (addr : Addr)
  /-- `STA $nnnn,Y`, opcode 99, R93. -/
  | staAbsY (addr : Addr)
  /-- `STA ($nn,X)`, opcode 81, R93. -/
  | staIndX (zp : Byte)
  /-- `STA ($nn),Y`, opcode 91, R93. -/
  | staIndY (zp : Byte)
  /-- `STX $nn`, opcode 86, R94. -/
  | stxZp (zp : Byte)
  /-- `STX $nn,Y`, opcode 96, R94. -/
  | stxZpY (zp : Byte)
  /-- `STX $nnnn`, opcode 8E, R94. -/
  | stxAbs (addr : Addr)
  /-- `STY $nn`, opcode 84, R95. -/
  | styZp (zp : Byte)
  /-- `STY $nn,X`, opcode 94, R95. -/
  | styZpX (zp : Byte)
  /-- `STY $nnnn`, opcode 8C, R95. -/
  | styAbs (addr : Addr)
  /-- `ORA #$nn`, opcode 09, R100. -/
  | oraImm (v : Byte)
  /-- `ORA $nn`, opcode 05, R100. -/
  | oraZp (zp : Byte)
  /-- `ORA $nn,X`, opcode 15, R100. -/
  | oraZpX (zp : Byte)
  /-- `ORA $nnnn`, opcode 0D, R100. -/
  | oraAbs (addr : Addr)
  /-- `ORA $nnnn,X`, opcode 1D, R100. -/
  | oraAbsX (addr : Addr)
  /-- `ORA $nnnn,Y`, opcode 19, R100. -/
  | oraAbsY (addr : Addr)
  /-- `ORA ($nn,X)`, opcode 01, R100. -/
  | oraIndX (zp : Byte)
  /-- `ORA ($nn),Y`, opcode 11, R100. -/
  | oraIndY (zp : Byte)
  /-- `AND #$nn`, opcode 29, R101. -/
  | andImm (v : Byte)
  /-- `AND $nn`, opcode 25, R101. -/
  | andZp (zp : Byte)
  /-- `AND $nn,X`, opcode 35, R101. -/
  | andZpX (zp : Byte)
  /-- `AND $nnnn`, opcode 2D, R101. -/
  | andAbs (addr : Addr)
  /-- `AND $nnnn,X`, opcode 3D, R101. -/
  | andAbsX (addr : Addr)
  /-- `AND $nnnn,Y`, opcode 39, R101. -/
  | andAbsY (addr : Addr)
  /-- `AND ($nn,X)`, opcode 21, R101. -/
  | andIndX (zp : Byte)
  /-- `AND ($nn),Y`, opcode 31, R101. -/
  | andIndY (zp : Byte)
  /-- `EOR #$nn`, opcode 49, R102. -/
  | eorImm (v : Byte)
  /-- `EOR $nn`, opcode 45, R102. -/
  | eorZp (zp : Byte)
  /-- `EOR $nn,X`, opcode 55, R102. -/
  | eorZpX (zp : Byte)
  /-- `EOR $nnnn`, opcode 4D, R102. -/
  | eorAbs (addr : Addr)
  /-- `EOR $nnnn,X`, opcode 5D, R102. -/
  | eorAbsX (addr : Addr)
  /-- `EOR $nnnn,Y`, opcode 59, R102. -/
  | eorAbsY (addr : Addr)
  /-- `EOR ($nn,X)`, opcode 41, R102. -/
  | eorIndX (zp : Byte)
  /-- `EOR ($nn),Y`, opcode 51, R102. -/
  | eorIndY (zp : Byte)
  /-- `ADC #$nn`, opcode 69, R103. -/
  | adcImm (v : Byte)
  /-- `ADC $nn`, opcode 65, R103. -/
  | adcZp (zp : Byte)
  /-- `ADC $nn,X`, opcode 75, R103. -/
  | adcZpX (zp : Byte)
  /-- `ADC $nnnn`, opcode 6D, R103. -/
  | adcAbs (addr : Addr)
  /-- `ADC $nnnn,X`, opcode 7D, R103. -/
  | adcAbsX (addr : Addr)
  /-- `ADC $nnnn,Y`, opcode 79, R103. -/
  | adcAbsY (addr : Addr)
  /-- `ADC ($nn,X)`, opcode 61, R103. -/
  | adcIndX (zp : Byte)
  /-- `ADC ($nn),Y`, opcode 71, R103. -/
  | adcIndY (zp : Byte)
  /-- `SBC #$nn`, opcode E9, R104. -/
  | sbcImm (v : Byte)
  /-- `SBC $nn`, opcode E5, R104. -/
  | sbcZp (zp : Byte)
  /-- `SBC $nn,X`, opcode F5, R104. -/
  | sbcZpX (zp : Byte)
  /-- `SBC $nnnn`, opcode ED, R104. -/
  | sbcAbs (addr : Addr)
  /-- `SBC $nnnn,X`, opcode FD, R104. -/
  | sbcAbsX (addr : Addr)
  /-- `SBC $nnnn,Y`, opcode F9, R104. -/
  | sbcAbsY (addr : Addr)
  /-- `SBC ($nn,X)`, opcode E1, R104. -/
  | sbcIndX (zp : Byte)
  /-- `SBC ($nn),Y`, opcode F1, R104. -/
  | sbcIndY (zp : Byte)
  /-- `CMP #$nn`, opcode C9, R105. -/
  | cmpImm (v : Byte)
  /-- `CMP $nn`, opcode C5, R105. -/
  | cmpZp (zp : Byte)
  /-- `CMP $nn,X`, opcode D5, R105. -/
  | cmpZpX (zp : Byte)
  /-- `CMP $nnnn`, opcode CD, R105. -/
  | cmpAbs (addr : Addr)
  /-- `CMP $nnnn,X`, opcode DD, R105. -/
  | cmpAbsX (addr : Addr)
  /-- `CMP $nnnn,Y`, opcode D9, R105. -/
  | cmpAbsY (addr : Addr)
  /-- `CMP ($nn,X)`, opcode C1, R105. -/
  | cmpIndX (zp : Byte)
  /-- `CMP ($nn),Y`, opcode D1, R105. -/
  | cmpIndY (zp : Byte)
  /-- `CPX #$nn`, opcode E0, R106. -/
  | cpxImm (v : Byte)
  /-- `CPX $nn`, opcode E4, R106. -/
  | cpxZp (zp : Byte)
  /-- `CPX $nnnn`, opcode EC, R106. -/
  | cpxAbs (addr : Addr)
  /-- `CPY #$nn`, opcode C0, R107. -/
  | cpyImm (v : Byte)
  /-- `CPY $nn`, opcode C4, R107. -/
  | cpyZp (zp : Byte)
  /-- `CPY $nnnn`, opcode CC, R107. -/
  | cpyAbs (addr : Addr)
  /-- `BIT $nn`, opcode 24, R108. -/
  | bitZp (zp : Byte)
  /-- `BIT $nnnn`, opcode 2C, R108. -/
  | bitAbs (addr : Addr)
  /-- `ASL A`, opcode 0A, R110. -/
  | aslAcc
  /-- `ASL $nn`, opcode 06, R110. -/
  | aslZp (zp : Byte)
  /-- `ASL $nn,X`, opcode 16, R110. -/
  | aslZpX (zp : Byte)
  /-- `ASL $nnnn`, opcode 0E, R110. -/
  | aslAbs (addr : Addr)
  /-- `ASL $nnnn,X`, opcode 1E, R110. -/
  | aslAbsX (addr : Addr)
  /-- `LSR A`, opcode 4A, R111. -/
  | lsrAcc
  /-- `LSR $nn`, opcode 46, R111. -/
  | lsrZp (zp : Byte)
  /-- `LSR $nn,X`, opcode 56, R111. -/
  | lsrZpX (zp : Byte)
  /-- `LSR $nnnn`, opcode 4E, R111. -/
  | lsrAbs (addr : Addr)
  /-- `LSR $nnnn,X`, opcode 5E, R111. -/
  | lsrAbsX (addr : Addr)
  /-- `ROL A`, opcode 2A, R112. -/
  | rolAcc
  /-- `ROL $nn`, opcode 26, R112. -/
  | rolZp (zp : Byte)
  /-- `ROL $nn,X`, opcode 36, R112. -/
  | rolZpX (zp : Byte)
  /-- `ROL $nnnn`, opcode 2E, R112. -/
  | rolAbs (addr : Addr)
  /-- `ROL $nnnn,X`, opcode 3E, R112. -/
  | rolAbsX (addr : Addr)
  /-- `ROR A`, opcode 6A, R113. -/
  | rorAcc
  /-- `ROR $nn`, opcode 66, R113. -/
  | rorZp (zp : Byte)
  /-- `ROR $nn,X`, opcode 76, R113. -/
  | rorZpX (zp : Byte)
  /-- `ROR $nnnn`, opcode 6E, R113. -/
  | rorAbs (addr : Addr)
  /-- `ROR $nnnn,X`, opcode 7E, R113. -/
  | rorAbsX (addr : Addr)
  /-- `INC $nn`, opcode E6, R114. -/
  | incZp (zp : Byte)
  /-- `INC $nn,X`, opcode F6, R114. -/
  | incZpX (zp : Byte)
  /-- `INC $nnnn`, opcode EE, R114. -/
  | incAbs (addr : Addr)
  /-- `INC $nnnn,X`, opcode FE, R114. -/
  | incAbsX (addr : Addr)
  /-- `DEC $nn`, opcode C6, R115. -/
  | decZp (zp : Byte)
  /-- `DEC $nn,X`, opcode D6, R115. -/
  | decZpX (zp : Byte)
  /-- `DEC $nnnn`, opcode CE, R115. -/
  | decAbs (addr : Addr)
  /-- `DEC $nnnn,X`, opcode DE, R115. -/
  | decAbsX (addr : Addr)
  /-- `INX`, opcode E8, R116. -/
  | inx
  /-- `INY`, opcode C8, R117. -/
  | iny
  /-- `DEX`, opcode CA, R118. -/
  | dex
  /-- `DEY`, opcode 88, R119. -/
  | dey
  /-- `BPL label`, opcode 10, R121. -/
  | bpl (disp : Byte)
  /-- `BMI label`, opcode 30, R122. -/
  | bmi (disp : Byte)
  /-- `BVC label`, opcode 50, R123. -/
  | bvc (disp : Byte)
  /-- `BVS label`, opcode 70, R124. -/
  | bvs (disp : Byte)
  /-- `BCC label`, opcode 90, R125. -/
  | bcc (disp : Byte)
  /-- `BCS label`, opcode B0, R126. -/
  | bcs (disp : Byte)
  /-- `BNE label`, opcode D0, R127. -/
  | bne (disp : Byte)
  /-- `BEQ label`, opcode F0, R128. -/
  | beq (disp : Byte)
  /-- `JMP $nnnn`, opcode 4C, R129. -/
  | jmpAbs (addr : Addr)
  /-- `JMP ($nnnn)`, opcode 6C, R130. -/
  | jmpInd (addr : Addr)
  /-- `JSR $nnnn`, opcode 20, R131. -/
  | jsr (addr : Addr)
  /-- `RTS`, opcode 60, R132. -/
  | rts
  /-- `TAX`, opcode AA, R135. -/
  | tax
  /-- `TXA`, opcode 8A, R136. -/
  | txa
  /-- `TAY`, opcode A8, R137. -/
  | tay
  /-- `TYA`, opcode 98, R138. -/
  | tya
  /-- `TSX`, opcode BA, R139. -/
  | tsx
  /-- `TXS`, opcode 9A, R140. -/
  | txs
  /-- `CLC`, opcode 18, R141. -/
  | clc
  /-- `SEC`, opcode 38, R142. -/
  | sec
  /-- `CLI`, opcode 58, R143. -/
  | cli
  /-- `SEI`, opcode 78, R144. -/
  | sei
  /-- `CLV`, opcode B8, R145. -/
  | clv
  /-- `CLD`, opcode D8, R146. -/
  | cld
  /-- `SED`, opcode F8, R147. -/
  | sed
  /-- `PHA`, opcode 48, R148. -/
  | pha
  /-- `PLA`, opcode 68, R149. -/
  | pla
  /-- `PHP`, opcode 08, R150. -/
  | php
  /-- `PLP`, opcode 28, R151. -/
  | plp
  /-- `NOP`, opcode EA, R152. -/
  | nop
  /-- `BRK`, opcode 00, R155. -/
  | brk
  /-- `RTI`, opcode 40, R156. -/
  | rti
  /-- `WAI`, opcode CB, R157. -/
  | wai
deriving DecidableEq, Repr

/-- The eight addressing modes with a memory operand (40_execution_and_addressing.md R73 to R80). -/
inductive MemOperand where
  | zeropage (zp : Byte)
  | zeropageX (zp : Byte)
  | zeropageY (zp : Byte)
  | absolute (addr : Addr)
  | absoluteX (addr : Addr)
  | absoluteY (addr : Addr)
  | indexedIndirect (zp : Byte)
  | indirectIndexed (zp : Byte)
deriving DecidableEq, Repr

/-- The operand of a read-type instruction (40_execution_and_addressing.md R83): the immediate byte
(R72) or a byte of memory. A store through the immediate mode (R86) cannot be written down. -/
inductive ReadOperand where
  | immediate (v : Byte)
  | mem (m : MemOperand)
deriving DecidableEq, Repr

/-- The operand of a read-modify-write instruction (40_execution_and_addressing.md R85): `A` (R71) or
a byte of memory. -/
inductive RmwOperand where
  | accumulator
  | mem (m : MemOperand)
deriving DecidableEq, Repr

/-- The read-type mnemonics (40_execution_and_addressing.md R83). -/
inductive ReadFamily where
  | lda | ldx | ldy | ora | and | eor | adc | sbc | cmp | cpx
  | cpy | bit
deriving DecidableEq, Repr

/-- The store-type mnemonics (40_execution_and_addressing.md R84). -/
inductive StoreFamily where
  | sta | stx | sty
deriving DecidableEq, Repr

/-- The read-modify-write mnemonics (40_execution_and_addressing.md R85). -/
inductive RmwFamily where
  | asl | lsr | rol | ror | inc | dec
deriving DecidableEq, Repr

/-- The eight branches (44_branch_jump_subroutine.md R121 to R128). -/
inductive BranchFamily where
  | bpl | bmi | bvc | bvs | bcc | bcs | bne | beq
deriving DecidableEq, Repr

/-- The instructions without an operand (40_execution_and_addressing.md R70). -/
inductive ImpliedOp where
  | inx | iny | dex | dey | rts | tax | txa | tay | tya | tsx
  | txs | clc | sec | cli | sei | clv | cld | sed | pha | pla
  | php | plp | nop | brk | rti | wai
deriving DecidableEq, Repr

/-- An instruction by the shape its rule gives it. -/
inductive Form where
  | read (f : ReadFamily) (o : ReadOperand)
  | store (f : StoreFamily) (m : MemOperand)
  | rmw (f : RmwFamily) (o : RmwOperand)
  | branch (f : BranchFamily) (disp : Byte)
  /-- JMP absolute (44_branch_jump_subroutine.md R129). -/
  | jump (target : Addr)
  /-- JMP absolute-indirect (R130). -/
  | jumpIndirect (pointer : Addr)
  /-- JSR (R131). -/
  | call (target : Addr)
  | implied (f : ImpliedOp)
deriving DecidableEq, Repr

/-- The form of each instruction: its mnemonic and its addressing mode (30_encoding.md R51, R57). -/
def Instr.form : Instr → Form
  | .ldaImm v => .read .lda (.immediate v)
  | .ldaZp zp => .read .lda (.mem (.zeropage zp))
  | .ldaZpX zp => .read .lda (.mem (.zeropageX zp))
  | .ldaAbs addr => .read .lda (.mem (.absolute addr))
  | .ldaAbsX addr => .read .lda (.mem (.absoluteX addr))
  | .ldaAbsY addr => .read .lda (.mem (.absoluteY addr))
  | .ldaIndX zp => .read .lda (.mem (.indexedIndirect zp))
  | .ldaIndY zp => .read .lda (.mem (.indirectIndexed zp))
  | .ldxImm v => .read .ldx (.immediate v)
  | .ldxZp zp => .read .ldx (.mem (.zeropage zp))
  | .ldxZpY zp => .read .ldx (.mem (.zeropageY zp))
  | .ldxAbs addr => .read .ldx (.mem (.absolute addr))
  | .ldxAbsY addr => .read .ldx (.mem (.absoluteY addr))
  | .ldyImm v => .read .ldy (.immediate v)
  | .ldyZp zp => .read .ldy (.mem (.zeropage zp))
  | .ldyZpX zp => .read .ldy (.mem (.zeropageX zp))
  | .ldyAbs addr => .read .ldy (.mem (.absolute addr))
  | .ldyAbsX addr => .read .ldy (.mem (.absoluteX addr))
  | .staZp zp => .store .sta (.zeropage zp)
  | .staZpX zp => .store .sta (.zeropageX zp)
  | .staAbs addr => .store .sta (.absolute addr)
  | .staAbsX addr => .store .sta (.absoluteX addr)
  | .staAbsY addr => .store .sta (.absoluteY addr)
  | .staIndX zp => .store .sta (.indexedIndirect zp)
  | .staIndY zp => .store .sta (.indirectIndexed zp)
  | .stxZp zp => .store .stx (.zeropage zp)
  | .stxZpY zp => .store .stx (.zeropageY zp)
  | .stxAbs addr => .store .stx (.absolute addr)
  | .styZp zp => .store .sty (.zeropage zp)
  | .styZpX zp => .store .sty (.zeropageX zp)
  | .styAbs addr => .store .sty (.absolute addr)
  | .oraImm v => .read .ora (.immediate v)
  | .oraZp zp => .read .ora (.mem (.zeropage zp))
  | .oraZpX zp => .read .ora (.mem (.zeropageX zp))
  | .oraAbs addr => .read .ora (.mem (.absolute addr))
  | .oraAbsX addr => .read .ora (.mem (.absoluteX addr))
  | .oraAbsY addr => .read .ora (.mem (.absoluteY addr))
  | .oraIndX zp => .read .ora (.mem (.indexedIndirect zp))
  | .oraIndY zp => .read .ora (.mem (.indirectIndexed zp))
  | .andImm v => .read .and (.immediate v)
  | .andZp zp => .read .and (.mem (.zeropage zp))
  | .andZpX zp => .read .and (.mem (.zeropageX zp))
  | .andAbs addr => .read .and (.mem (.absolute addr))
  | .andAbsX addr => .read .and (.mem (.absoluteX addr))
  | .andAbsY addr => .read .and (.mem (.absoluteY addr))
  | .andIndX zp => .read .and (.mem (.indexedIndirect zp))
  | .andIndY zp => .read .and (.mem (.indirectIndexed zp))
  | .eorImm v => .read .eor (.immediate v)
  | .eorZp zp => .read .eor (.mem (.zeropage zp))
  | .eorZpX zp => .read .eor (.mem (.zeropageX zp))
  | .eorAbs addr => .read .eor (.mem (.absolute addr))
  | .eorAbsX addr => .read .eor (.mem (.absoluteX addr))
  | .eorAbsY addr => .read .eor (.mem (.absoluteY addr))
  | .eorIndX zp => .read .eor (.mem (.indexedIndirect zp))
  | .eorIndY zp => .read .eor (.mem (.indirectIndexed zp))
  | .adcImm v => .read .adc (.immediate v)
  | .adcZp zp => .read .adc (.mem (.zeropage zp))
  | .adcZpX zp => .read .adc (.mem (.zeropageX zp))
  | .adcAbs addr => .read .adc (.mem (.absolute addr))
  | .adcAbsX addr => .read .adc (.mem (.absoluteX addr))
  | .adcAbsY addr => .read .adc (.mem (.absoluteY addr))
  | .adcIndX zp => .read .adc (.mem (.indexedIndirect zp))
  | .adcIndY zp => .read .adc (.mem (.indirectIndexed zp))
  | .sbcImm v => .read .sbc (.immediate v)
  | .sbcZp zp => .read .sbc (.mem (.zeropage zp))
  | .sbcZpX zp => .read .sbc (.mem (.zeropageX zp))
  | .sbcAbs addr => .read .sbc (.mem (.absolute addr))
  | .sbcAbsX addr => .read .sbc (.mem (.absoluteX addr))
  | .sbcAbsY addr => .read .sbc (.mem (.absoluteY addr))
  | .sbcIndX zp => .read .sbc (.mem (.indexedIndirect zp))
  | .sbcIndY zp => .read .sbc (.mem (.indirectIndexed zp))
  | .cmpImm v => .read .cmp (.immediate v)
  | .cmpZp zp => .read .cmp (.mem (.zeropage zp))
  | .cmpZpX zp => .read .cmp (.mem (.zeropageX zp))
  | .cmpAbs addr => .read .cmp (.mem (.absolute addr))
  | .cmpAbsX addr => .read .cmp (.mem (.absoluteX addr))
  | .cmpAbsY addr => .read .cmp (.mem (.absoluteY addr))
  | .cmpIndX zp => .read .cmp (.mem (.indexedIndirect zp))
  | .cmpIndY zp => .read .cmp (.mem (.indirectIndexed zp))
  | .cpxImm v => .read .cpx (.immediate v)
  | .cpxZp zp => .read .cpx (.mem (.zeropage zp))
  | .cpxAbs addr => .read .cpx (.mem (.absolute addr))
  | .cpyImm v => .read .cpy (.immediate v)
  | .cpyZp zp => .read .cpy (.mem (.zeropage zp))
  | .cpyAbs addr => .read .cpy (.mem (.absolute addr))
  | .bitZp zp => .read .bit (.mem (.zeropage zp))
  | .bitAbs addr => .read .bit (.mem (.absolute addr))
  | .aslAcc => .rmw .asl .accumulator
  | .aslZp zp => .rmw .asl (.mem (.zeropage zp))
  | .aslZpX zp => .rmw .asl (.mem (.zeropageX zp))
  | .aslAbs addr => .rmw .asl (.mem (.absolute addr))
  | .aslAbsX addr => .rmw .asl (.mem (.absoluteX addr))
  | .lsrAcc => .rmw .lsr .accumulator
  | .lsrZp zp => .rmw .lsr (.mem (.zeropage zp))
  | .lsrZpX zp => .rmw .lsr (.mem (.zeropageX zp))
  | .lsrAbs addr => .rmw .lsr (.mem (.absolute addr))
  | .lsrAbsX addr => .rmw .lsr (.mem (.absoluteX addr))
  | .rolAcc => .rmw .rol .accumulator
  | .rolZp zp => .rmw .rol (.mem (.zeropage zp))
  | .rolZpX zp => .rmw .rol (.mem (.zeropageX zp))
  | .rolAbs addr => .rmw .rol (.mem (.absolute addr))
  | .rolAbsX addr => .rmw .rol (.mem (.absoluteX addr))
  | .rorAcc => .rmw .ror .accumulator
  | .rorZp zp => .rmw .ror (.mem (.zeropage zp))
  | .rorZpX zp => .rmw .ror (.mem (.zeropageX zp))
  | .rorAbs addr => .rmw .ror (.mem (.absolute addr))
  | .rorAbsX addr => .rmw .ror (.mem (.absoluteX addr))
  | .incZp zp => .rmw .inc (.mem (.zeropage zp))
  | .incZpX zp => .rmw .inc (.mem (.zeropageX zp))
  | .incAbs addr => .rmw .inc (.mem (.absolute addr))
  | .incAbsX addr => .rmw .inc (.mem (.absoluteX addr))
  | .decZp zp => .rmw .dec (.mem (.zeropage zp))
  | .decZpX zp => .rmw .dec (.mem (.zeropageX zp))
  | .decAbs addr => .rmw .dec (.mem (.absolute addr))
  | .decAbsX addr => .rmw .dec (.mem (.absoluteX addr))
  | .inx => .implied .inx
  | .iny => .implied .iny
  | .dex => .implied .dex
  | .dey => .implied .dey
  | .bpl disp => .branch .bpl disp
  | .bmi disp => .branch .bmi disp
  | .bvc disp => .branch .bvc disp
  | .bvs disp => .branch .bvs disp
  | .bcc disp => .branch .bcc disp
  | .bcs disp => .branch .bcs disp
  | .bne disp => .branch .bne disp
  | .beq disp => .branch .beq disp
  | .jmpAbs addr => .jump addr
  | .jmpInd addr => .jumpIndirect addr
  | .jsr addr => .call addr
  | .rts => .implied .rts
  | .tax => .implied .tax
  | .txa => .implied .txa
  | .tay => .implied .tay
  | .tya => .implied .tya
  | .tsx => .implied .tsx
  | .txs => .implied .txs
  | .clc => .implied .clc
  | .sec => .implied .sec
  | .cli => .implied .cli
  | .sei => .implied .sei
  | .clv => .implied .clv
  | .cld => .implied .cld
  | .sed => .implied .sed
  | .pha => .implied .pha
  | .pla => .implied .pla
  | .php => .implied .php
  | .plp => .implied .plp
  | .nop => .implied .nop
  | .brk => .implied .brk
  | .rti => .implied .rti
  | .wai => .implied .wai

/-- Tier S of 30_encoding.md R55: LSR, BIT, INX, INY, DEX, DEY and WAI. -/
def Form.tierS : Form → Bool
  | .read f _ => f = .bit
  | .store _ _ => false
  | .rmw f _ => f = .lsr
  | .branch _ _ => false
  | .jump _ => false
  | .jumpIndirect _ => false
  | .call _ => false
  | .implied f => f = .inx || f = .iny || f = .dex || f = .dey || f = .wai

end Sys2Proof
end

