-- ==== Sys2Proof/WellFormed.lean ====
section
/-!
DEFINITION. Which instructions a configuration has. Every operand byte and every operand word is legal
(30_encoding.md R59), so the one check is the tier: an instruction of tier S exists only while
`BIND_TIER_S` is true (30_encoding.md R55).
-/

namespace Sys2Proof

/-- The instruction is bound under the configuration (30_encoding.md R55, R58). -/
def Instr.wf (cfg : Config) (i : Instr) : Bool :=
  cfg.bindTierS || !i.form.tierS

end Sys2Proof
end

