-- ==== Sys2Proof/Decode.lean ====
section
/-!
DEFINITION. The operation table as a decoder (30_encoding.md R53, R56), total on any bytes, and after it
the encoder, written from the list by mnemonic (30_encoding.md R57). The two transcribe two different
tables of the spec.
-/

namespace Sys2Proof

/-- A 16-bit value from its two halves, `hi ++ lo` of 00_scope.md R6. -/
def wordOf (hi lo : Byte) : Addr := hi ++ lo

/-- The low half of a 16-bit value, `v[7:0]`. -/
def loByte (v : Addr) : Byte := v.setWidth 8

/-- The high half of a 16-bit value, `v[15:8]`. -/
def hiByte (v : Addr) : Byte := (v >>> 8).setWidth 8

/-- What an opcode byte says: the instruction, still waiting for its 0, 1 or 2 operand bytes
(30_encoding.md R50, R52). -/
inductive Shape where
  | noOperand (i : Instr)
  | byteOperand (f : Byte → Instr)
  | wordOperand (f : Addr → Instr)

/-- `operandByteCount` of the descriptor (30_encoding.md R50). -/
def Shape.operandByteCount : Shape → Nat
  | .noOperand _ => 0
  | .byteOperand _ => 1
  | .wordOperand _ => 2

/-- Row 0x of the opcode matrix (30_encoding.md R56), by the low nibble of the opcode. -/
def matrixRow0 : Nat → Option Shape
  | 0x0 => some (.noOperand .brk)
  | 0x1 => some (.byteOperand .oraIndX)
  | 0x5 => some (.byteOperand .oraZp)
  | 0x6 => some (.byteOperand .aslZp)
  | 0x8 => some (.noOperand .php)
  | 0x9 => some (.byteOperand .oraImm)
  | 0xA => some (.noOperand .aslAcc)
  | 0xD => some (.wordOperand .oraAbs)
  | 0xE => some (.wordOperand .aslAbs)
  | _ => none

/-- Row 1x of the opcode matrix (30_encoding.md R56), by the low nibble of the opcode. -/
def matrixRow1 : Nat → Option Shape
  | 0x0 => some (.byteOperand .bpl)
  | 0x1 => some (.byteOperand .oraIndY)
  | 0x5 => some (.byteOperand .oraZpX)
  | 0x6 => some (.byteOperand .aslZpX)
  | 0x8 => some (.noOperand .clc)
  | 0x9 => some (.wordOperand .oraAbsY)
  | 0xD => some (.wordOperand .oraAbsX)
  | 0xE => some (.wordOperand .aslAbsX)
  | _ => none

/-- Row 2x of the opcode matrix (30_encoding.md R56), by the low nibble of the opcode. -/
def matrixRow2 : Nat → Option Shape
  | 0x0 => some (.wordOperand .jsr)
  | 0x1 => some (.byteOperand .andIndX)
  | 0x4 => some (.byteOperand .bitZp)
  | 0x5 => some (.byteOperand .andZp)
  | 0x6 => some (.byteOperand .rolZp)
  | 0x8 => some (.noOperand .plp)
  | 0x9 => some (.byteOperand .andImm)
  | 0xA => some (.noOperand .rolAcc)
  | 0xC => some (.wordOperand .bitAbs)
  | 0xD => some (.wordOperand .andAbs)
  | 0xE => some (.wordOperand .rolAbs)
  | _ => none

/-- Row 3x of the opcode matrix (30_encoding.md R56), by the low nibble of the opcode. -/
def matrixRow3 : Nat → Option Shape
  | 0x0 => some (.byteOperand .bmi)
  | 0x1 => some (.byteOperand .andIndY)
  | 0x5 => some (.byteOperand .andZpX)
  | 0x6 => some (.byteOperand .rolZpX)
  | 0x8 => some (.noOperand .sec)
  | 0x9 => some (.wordOperand .andAbsY)
  | 0xD => some (.wordOperand .andAbsX)
  | 0xE => some (.wordOperand .rolAbsX)
  | _ => none

/-- Row 4x of the opcode matrix (30_encoding.md R56), by the low nibble of the opcode. -/
def matrixRow4 : Nat → Option Shape
  | 0x0 => some (.noOperand .rti)
  | 0x1 => some (.byteOperand .eorIndX)
  | 0x5 => some (.byteOperand .eorZp)
  | 0x6 => some (.byteOperand .lsrZp)
  | 0x8 => some (.noOperand .pha)
  | 0x9 => some (.byteOperand .eorImm)
  | 0xA => some (.noOperand .lsrAcc)
  | 0xC => some (.wordOperand .jmpAbs)
  | 0xD => some (.wordOperand .eorAbs)
  | 0xE => some (.wordOperand .lsrAbs)
  | _ => none

/-- Row 5x of the opcode matrix (30_encoding.md R56), by the low nibble of the opcode. -/
def matrixRow5 : Nat → Option Shape
  | 0x0 => some (.byteOperand .bvc)
  | 0x1 => some (.byteOperand .eorIndY)
  | 0x5 => some (.byteOperand .eorZpX)
  | 0x6 => some (.byteOperand .lsrZpX)
  | 0x8 => some (.noOperand .cli)
  | 0x9 => some (.wordOperand .eorAbsY)
  | 0xD => some (.wordOperand .eorAbsX)
  | 0xE => some (.wordOperand .lsrAbsX)
  | _ => none

/-- Row 6x of the opcode matrix (30_encoding.md R56), by the low nibble of the opcode. -/
def matrixRow6 : Nat → Option Shape
  | 0x0 => some (.noOperand .rts)
  | 0x1 => some (.byteOperand .adcIndX)
  | 0x5 => some (.byteOperand .adcZp)
  | 0x6 => some (.byteOperand .rorZp)
  | 0x8 => some (.noOperand .pla)
  | 0x9 => some (.byteOperand .adcImm)
  | 0xA => some (.noOperand .rorAcc)
  | 0xC => some (.wordOperand .jmpInd)
  | 0xD => some (.wordOperand .adcAbs)
  | 0xE => some (.wordOperand .rorAbs)
  | _ => none

/-- Row 7x of the opcode matrix (30_encoding.md R56), by the low nibble of the opcode. -/
def matrixRow7 : Nat → Option Shape
  | 0x0 => some (.byteOperand .bvs)
  | 0x1 => some (.byteOperand .adcIndY)
  | 0x5 => some (.byteOperand .adcZpX)
  | 0x6 => some (.byteOperand .rorZpX)
  | 0x8 => some (.noOperand .sei)
  | 0x9 => some (.wordOperand .adcAbsY)
  | 0xD => some (.wordOperand .adcAbsX)
  | 0xE => some (.wordOperand .rorAbsX)
  | _ => none

/-- Row 8x of the opcode matrix (30_encoding.md R56), by the low nibble of the opcode. -/
def matrixRow8 : Nat → Option Shape
  | 0x1 => some (.byteOperand .staIndX)
  | 0x4 => some (.byteOperand .styZp)
  | 0x5 => some (.byteOperand .staZp)
  | 0x6 => some (.byteOperand .stxZp)
  | 0x8 => some (.noOperand .dey)
  | 0xA => some (.noOperand .txa)
  | 0xC => some (.wordOperand .styAbs)
  | 0xD => some (.wordOperand .staAbs)
  | 0xE => some (.wordOperand .stxAbs)
  | _ => none

/-- Row 9x of the opcode matrix (30_encoding.md R56), by the low nibble of the opcode. -/
def matrixRow9 : Nat → Option Shape
  | 0x0 => some (.byteOperand .bcc)
  | 0x1 => some (.byteOperand .staIndY)
  | 0x4 => some (.byteOperand .styZpX)
  | 0x5 => some (.byteOperand .staZpX)
  | 0x6 => some (.byteOperand .stxZpY)
  | 0x8 => some (.noOperand .tya)
  | 0x9 => some (.wordOperand .staAbsY)
  | 0xA => some (.noOperand .txs)
  | 0xD => some (.wordOperand .staAbsX)
  | _ => none

/-- Row Ax of the opcode matrix (30_encoding.md R56), by the low nibble of the opcode. -/
def matrixRowA : Nat → Option Shape
  | 0x0 => some (.byteOperand .ldyImm)
  | 0x1 => some (.byteOperand .ldaIndX)
  | 0x2 => some (.byteOperand .ldxImm)
  | 0x4 => some (.byteOperand .ldyZp)
  | 0x5 => some (.byteOperand .ldaZp)
  | 0x6 => some (.byteOperand .ldxZp)
  | 0x8 => some (.noOperand .tay)
  | 0x9 => some (.byteOperand .ldaImm)
  | 0xA => some (.noOperand .tax)
  | 0xC => some (.wordOperand .ldyAbs)
  | 0xD => some (.wordOperand .ldaAbs)
  | 0xE => some (.wordOperand .ldxAbs)
  | _ => none

/-- Row Bx of the opcode matrix (30_encoding.md R56), by the low nibble of the opcode. -/
def matrixRowB : Nat → Option Shape
  | 0x0 => some (.byteOperand .bcs)
  | 0x1 => some (.byteOperand .ldaIndY)
  | 0x4 => some (.byteOperand .ldyZpX)
  | 0x5 => some (.byteOperand .ldaZpX)
  | 0x6 => some (.byteOperand .ldxZpY)
  | 0x8 => some (.noOperand .clv)
  | 0x9 => some (.wordOperand .ldaAbsY)
  | 0xA => some (.noOperand .tsx)
  | 0xC => some (.wordOperand .ldyAbsX)
  | 0xD => some (.wordOperand .ldaAbsX)
  | 0xE => some (.wordOperand .ldxAbsY)
  | _ => none

/-- Row Cx of the opcode matrix (30_encoding.md R56), by the low nibble of the opcode. -/
def matrixRowC : Nat → Option Shape
  | 0x0 => some (.byteOperand .cpyImm)
  | 0x1 => some (.byteOperand .cmpIndX)
  | 0x4 => some (.byteOperand .cpyZp)
  | 0x5 => some (.byteOperand .cmpZp)
  | 0x6 => some (.byteOperand .decZp)
  | 0x8 => some (.noOperand .iny)
  | 0x9 => some (.byteOperand .cmpImm)
  | 0xA => some (.noOperand .dex)
  | 0xB => some (.noOperand .wai)
  | 0xC => some (.wordOperand .cpyAbs)
  | 0xD => some (.wordOperand .cmpAbs)
  | 0xE => some (.wordOperand .decAbs)
  | _ => none

/-- Row Dx of the opcode matrix (30_encoding.md R56), by the low nibble of the opcode. -/
def matrixRowD : Nat → Option Shape
  | 0x0 => some (.byteOperand .bne)
  | 0x1 => some (.byteOperand .cmpIndY)
  | 0x5 => some (.byteOperand .cmpZpX)
  | 0x6 => some (.byteOperand .decZpX)
  | 0x8 => some (.noOperand .cld)
  | 0x9 => some (.wordOperand .cmpAbsY)
  | 0xD => some (.wordOperand .cmpAbsX)
  | 0xE => some (.wordOperand .decAbsX)
  | _ => none

/-- Row Ex of the opcode matrix (30_encoding.md R56), by the low nibble of the opcode. -/
def matrixRowE : Nat → Option Shape
  | 0x0 => some (.byteOperand .cpxImm)
  | 0x1 => some (.byteOperand .sbcIndX)
  | 0x4 => some (.byteOperand .cpxZp)
  | 0x5 => some (.byteOperand .sbcZp)
  | 0x6 => some (.byteOperand .incZp)
  | 0x8 => some (.noOperand .inx)
  | 0x9 => some (.byteOperand .sbcImm)
  | 0xA => some (.noOperand .nop)
  | 0xC => some (.wordOperand .cpxAbs)
  | 0xD => some (.wordOperand .sbcAbs)
  | 0xE => some (.wordOperand .incAbs)
  | _ => none

/-- Row Fx of the opcode matrix (30_encoding.md R56), by the low nibble of the opcode. -/
def matrixRowF : Nat → Option Shape
  | 0x0 => some (.byteOperand .beq)
  | 0x1 => some (.byteOperand .sbcIndY)
  | 0x5 => some (.byteOperand .sbcZpX)
  | 0x6 => some (.byteOperand .incZpX)
  | 0x8 => some (.noOperand .sed)
  | 0x9 => some (.wordOperand .sbcAbsY)
  | 0xD => some (.wordOperand .sbcAbsX)
  | 0xE => some (.wordOperand .incAbsX)
  | _ => none

/-- The opcode matrix (30_encoding.md R56): row the high nibble, column the low nibble; `none` where it
shows a dash. -/
def matrix (op : Byte) : Option Shape :=
  let lo := op.toNat % 16
  match op.toNat / 16 with
  | 0x0 => matrixRow0 lo
  | 0x1 => matrixRow1 lo
  | 0x2 => matrixRow2 lo
  | 0x3 => matrixRow3 lo
  | 0x4 => matrixRow4 lo
  | 0x5 => matrixRow5 lo
  | 0x6 => matrixRow6 lo
  | 0x7 => matrixRow7 lo
  | 0x8 => matrixRow8 lo
  | 0x9 => matrixRow9 lo
  | 0xA => matrixRowA lo
  | 0xB => matrixRowB lo
  | 0xC => matrixRowC lo
  | 0xD => matrixRowD lo
  | 0xE => matrixRowE lo
  | 0xF => matrixRowF lo
  | _ => none

/-- The 12 opcode bytes of tier S, as 30_encoding.md R55 lists them. -/
def tierSOpcodes : List Byte :=
  [0x24, 0x2C, 0x46, 0x4A, 0x4E, 0x56, 0x5E, 0x88, 0xC8, 0xCA, 0xCB, 0xE8]

/-- `Decode` of 30_encoding.md R53: the descriptor of an opcode byte, or `none` where it is unbound. It
depends on the byte and on `BIND_TIER_S` alone. -/
def decodeOpcode (cfg : Config) (op : Byte) : Option Shape :=
  if !cfg.bindTierS && tierSOpcodes.contains op then none else matrix op

/-- Why a list of bytes is no instruction. -/
inductive DecodeError where
  /-- The list is empty: there is no opcode byte. -/
  | noOpcode
  /-- The opcode byte is unbound (30_encoding.md R58). -/
  | unbound (op : Byte)
  /-- The list ends before the operand bytes the opcode calls for (30_encoding.md R50). -/
  | missingOperand (op : Byte)
deriving DecidableEq, Repr

/-- The instruction at the head of a list of bytes and the bytes after it (30_encoding.md R50, R52: a
16-bit operand stands low byte first). -/
def decode (cfg : Config) : List Byte → Except DecodeError (Instr × List Byte)
  | [] => .error .noOpcode
  | op :: rest =>
    match decodeOpcode cfg op with
    | none => .error (.unbound op)
    | some (.noOperand i) => .ok (i, rest)
    | some (.byteOperand f) =>
      match rest with
      | v :: rest => .ok (f v, rest)
      | [] => .error (.missingOperand op)
    | some (.wordOperand f) =>
      match rest with
      | lo :: hi :: rest => .ok (f (wordOf hi lo), rest)
      | _ => .error (.missingOperand op)

/-- The opcode byte of each instruction (30_encoding.md R57). -/
def Instr.opcode : Instr → Byte
  | .ldaImm _ => 0xA9
  | .ldaZp _ => 0xA5
  | .ldaZpX _ => 0xB5
  | .ldaAbs _ => 0xAD
  | .ldaAbsX _ => 0xBD
  | .ldaAbsY _ => 0xB9
  | .ldaIndX _ => 0xA1
  | .ldaIndY _ => 0xB1
  | .ldxImm _ => 0xA2
  | .ldxZp _ => 0xA6
  | .ldxZpY _ => 0xB6
  | .ldxAbs _ => 0xAE
  | .ldxAbsY _ => 0xBE
  | .ldyImm _ => 0xA0
  | .ldyZp _ => 0xA4
  | .ldyZpX _ => 0xB4
  | .ldyAbs _ => 0xAC
  | .ldyAbsX _ => 0xBC
  | .staZp _ => 0x85
  | .staZpX _ => 0x95
  | .staAbs _ => 0x8D
  | .staAbsX _ => 0x9D
  | .staAbsY _ => 0x99
  | .staIndX _ => 0x81
  | .staIndY _ => 0x91
  | .stxZp _ => 0x86
  | .stxZpY _ => 0x96
  | .stxAbs _ => 0x8E
  | .styZp _ => 0x84
  | .styZpX _ => 0x94
  | .styAbs _ => 0x8C
  | .oraImm _ => 0x09
  | .oraZp _ => 0x05
  | .oraZpX _ => 0x15
  | .oraAbs _ => 0x0D
  | .oraAbsX _ => 0x1D
  | .oraAbsY _ => 0x19
  | .oraIndX _ => 0x01
  | .oraIndY _ => 0x11
  | .andImm _ => 0x29
  | .andZp _ => 0x25
  | .andZpX _ => 0x35
  | .andAbs _ => 0x2D
  | .andAbsX _ => 0x3D
  | .andAbsY _ => 0x39
  | .andIndX _ => 0x21
  | .andIndY _ => 0x31
  | .eorImm _ => 0x49
  | .eorZp _ => 0x45
  | .eorZpX _ => 0x55
  | .eorAbs _ => 0x4D
  | .eorAbsX _ => 0x5D
  | .eorAbsY _ => 0x59
  | .eorIndX _ => 0x41
  | .eorIndY _ => 0x51
  | .adcImm _ => 0x69
  | .adcZp _ => 0x65
  | .adcZpX _ => 0x75
  | .adcAbs _ => 0x6D
  | .adcAbsX _ => 0x7D
  | .adcAbsY _ => 0x79
  | .adcIndX _ => 0x61
  | .adcIndY _ => 0x71
  | .sbcImm _ => 0xE9
  | .sbcZp _ => 0xE5
  | .sbcZpX _ => 0xF5
  | .sbcAbs _ => 0xED
  | .sbcAbsX _ => 0xFD
  | .sbcAbsY _ => 0xF9
  | .sbcIndX _ => 0xE1
  | .sbcIndY _ => 0xF1
  | .cmpImm _ => 0xC9
  | .cmpZp _ => 0xC5
  | .cmpZpX _ => 0xD5
  | .cmpAbs _ => 0xCD
  | .cmpAbsX _ => 0xDD
  | .cmpAbsY _ => 0xD9
  | .cmpIndX _ => 0xC1
  | .cmpIndY _ => 0xD1
  | .cpxImm _ => 0xE0
  | .cpxZp _ => 0xE4
  | .cpxAbs _ => 0xEC
  | .cpyImm _ => 0xC0
  | .cpyZp _ => 0xC4
  | .cpyAbs _ => 0xCC
  | .bitZp _ => 0x24
  | .bitAbs _ => 0x2C
  | .aslAcc => 0x0A
  | .aslZp _ => 0x06
  | .aslZpX _ => 0x16
  | .aslAbs _ => 0x0E
  | .aslAbsX _ => 0x1E
  | .lsrAcc => 0x4A
  | .lsrZp _ => 0x46
  | .lsrZpX _ => 0x56
  | .lsrAbs _ => 0x4E
  | .lsrAbsX _ => 0x5E
  | .rolAcc => 0x2A
  | .rolZp _ => 0x26
  | .rolZpX _ => 0x36
  | .rolAbs _ => 0x2E
  | .rolAbsX _ => 0x3E
  | .rorAcc => 0x6A
  | .rorZp _ => 0x66
  | .rorZpX _ => 0x76
  | .rorAbs _ => 0x6E
  | .rorAbsX _ => 0x7E
  | .incZp _ => 0xE6
  | .incZpX _ => 0xF6
  | .incAbs _ => 0xEE
  | .incAbsX _ => 0xFE
  | .decZp _ => 0xC6
  | .decZpX _ => 0xD6
  | .decAbs _ => 0xCE
  | .decAbsX _ => 0xDE
  | .inx => 0xE8
  | .iny => 0xC8
  | .dex => 0xCA
  | .dey => 0x88
  | .bpl _ => 0x10
  | .bmi _ => 0x30
  | .bvc _ => 0x50
  | .bvs _ => 0x70
  | .bcc _ => 0x90
  | .bcs _ => 0xB0
  | .bne _ => 0xD0
  | .beq _ => 0xF0
  | .jmpAbs _ => 0x4C
  | .jmpInd _ => 0x6C
  | .jsr _ => 0x20
  | .rts => 0x60
  | .tax => 0xAA
  | .txa => 0x8A
  | .tay => 0xA8
  | .tya => 0x98
  | .tsx => 0xBA
  | .txs => 0x9A
  | .clc => 0x18
  | .sec => 0x38
  | .cli => 0x58
  | .sei => 0x78
  | .clv => 0xB8
  | .cld => 0xD8
  | .sed => 0xF8
  | .pha => 0x48
  | .pla => 0x68
  | .php => 0x08
  | .plp => 0x28
  | .nop => 0xEA
  | .brk => 0x00
  | .rti => 0x40
  | .wai => 0xCB

/-- The operand bytes of a memory operand (30_encoding.md R51). -/
def MemOperand.bytes : MemOperand → List Byte
  | .zeropage zp => [zp]
  | .zeropageX zp => [zp]
  | .zeropageY zp => [zp]
  | .absolute addr => [loByte addr, hiByte addr]
  | .absoluteX addr => [loByte addr, hiByte addr]
  | .absoluteY addr => [loByte addr, hiByte addr]
  | .indexedIndirect zp => [zp]
  | .indirectIndexed zp => [zp]

/-- The operand bytes of each form, low byte first (30_encoding.md R51). -/
def Form.operandBytes : Form → List Byte
  | .read _ (.immediate v) => [v]
  | .read _ (.mem m) => m.bytes
  | .store _ m => m.bytes
  | .rmw _ .accumulator => []
  | .rmw _ (.mem m) => m.bytes
  | .branch _ disp => [disp]
  | .jump target => [loByte target, hiByte target]
  | .jumpIndirect pointer => [loByte pointer, hiByte pointer]
  | .call target => [loByte target, hiByte target]
  | .implied _ => []

/-- The bytes of an instruction: its opcode, then its operand bytes (30_encoding.md R50). -/
def encode (i : Instr) : List Byte :=
  i.opcode :: i.form.operandBytes

/-- The length of an instruction in bytes (30_encoding.md R50). -/
def Instr.length (i : Instr) : Nat :=
  1 + i.form.operandBytes.length

/-- The three bytes of an instruction word as spec/opcode_table.json numbers its bits: bit 0 is the
least significant bit of the first byte, the second byte is bits 15 to 8. Bits above `nbits` are 0. -/
def tableBytes (nbits w : Nat) : List Byte :=
  let v := w % 2 ^ nbits
  [BitVec.ofNat 8 v, BitVec.ofNat 8 (v / 256), BitVec.ofNat 8 (v / 65536)]

/-- The instruction the decoder reads from a table word, under the default configuration. -/
def decodeTableWord (nbits w : Nat) : Option Instr :=
  match decode Config.default (tableBytes nbits w) with
  | .ok (i, _) => some i
  | .error _ => none

end Sys2Proof
end

