-- ==== Sys2Proof/Machine/State.lean ====
section
/-!
DEFINITION. The state of the machine as plain data: everything 10_state.md gives the core, and beside it
the host's memory, the log of port calls and the host's inputs still to come.
-/

namespace Sys2Proof.Machine

/-- `ClockMode` (10_state.md R19). -/
inductive ClockMode where
  | paused | running | waitForInterrupt
deriving DecidableEq, Repr

/-- `PendingInterrupt`, the one latch of requests (10_state.md R20). -/
inductive PendingInterrupt where
  | none | reset | irq | nmi
deriving DecidableEq, Repr

/-- The fault taxonomy (60_exceptions.md R160), each with the information R160 records. -/
inductive Fault where
  /-- Raised by `step` when it fetches an unbound opcode byte (60_exceptions.md R161); every later step
  answers it. Safe: the spec makes it fatal. -/
  | invalidOpcode (op : Byte)
  /-- Raised by nothing: a byte is 8 bits here (60_exceptions.md R162). Safe. -/
  | invalidByteValue (value : Int)
  /-- Raised by nothing: a word is 16 bits here (60_exceptions.md R162). Safe. -/
  | invalidWordValue (value : Int)
  /-- Raised by nothing: the memory port always exists here (60_exceptions.md R163). Safe. -/
  | accessMemoryNotConfigured
deriving DecidableEq, Repr

/-- Why an instruction has no meaning. -/
inductive Refusal where
  /-- Raised by an arm of `exec` that has no meaning yet; no arm is left that raises it. Safe. -/
  | notModelled (mnemonic : String)
deriving DecidableEq, Repr

/-- The five control inputs of the host (60_exceptions.md R179). -/
inductive HostInput where
  /-- `reset()` (70_reset_and_hazards.md R190). -/
  | reset
  /-- `triggerIRQB(setBrk)` (60_exceptions.md R165). -/
  | triggerIRQB (setBrk : Bool)
  /-- `triggerNMIB()` (60_exceptions.md R166). -/
  | triggerNMIB
  /-- `startClock()` (60_exceptions.md R176). -/
  | startClock
  /-- `pauseClock()` (60_exceptions.md R177). -/
  | pauseClock
deriving DecidableEq, Repr

/-- One call of the memory port: one byte moved (20_memory.md R31). -/
inductive PortCall where
  | read (addr : Addr) (value : Byte)
  | write (addr : Addr) (value : Byte)
deriving DecidableEq, Repr

/-- The host's plain RAM: the bytes that differ from what an unlisted address reads as, by rising
address (`Memory.wf`). -/
abbrev Memory := List Host.Cell

/-- The state. -/
structure State where
  /-- `A` (10_state.md R10). -/
  a : Byte
  /-- `X` (10_state.md R10). -/
  x : Byte
  /-- `Y` (10_state.md R10). -/
  y : Byte
  /-- `SP`: the next push goes to `0x0100 + SP` (10_state.md R12). -/
  sp : Byte
  /-- `P`: N V K B D I Z C from bit 7 down to bit 0 (10_state.md R13). -/
  p : Byte
  /-- `PC` (10_state.md R11). -/
  pc : Addr
  /-- `ClockMode` (10_state.md R19). -/
  clockMode : ClockMode
  /-- `PendingInterrupt` (10_state.md R20). -/
  pending : PendingInterrupt
  /-- `InstructionsExecuted` (10_state.md R21). -/
  executed : Nat
  /-- `Fault` (10_state.md R22). -/
  fault : Option Fault
  /-- The host's plain RAM behind the port (20_memory.md R31; log entry 4). -/
  mem : Memory
  /-- The port calls made so far, newest first (60_exceptions.md R187; log entry 7). -/
  portLog : List PortCall
  /-- How many device reads the host has answered: what the free value `Config.hostByte` is applied to
  (log entry 6). -/
  hostReads : Nat
  /-- The host's inputs still to come, one batch for each step boundary (60_exceptions.md R179; log
  entry 8). -/
  schedule : List (List HostInput)
  /-- The configuration, which no step changes (00_scope.md R5; log entry 3). -/
  config : Config
deriving DecidableEq, Repr

/-- The state with the field `a` written. -/
def State.setA (s : State) (v : Byte) : State := { s with a := v }

/-- The state with the field `x` written. -/
def State.setX (s : State) (v : Byte) : State := { s with x := v }

/-- The state with the field `y` written. -/
def State.setY (s : State) (v : Byte) : State := { s with y := v }

/-- The state with the field `sp` written. -/
def State.setSp (s : State) (v : Byte) : State := { s with sp := v }

/-- The state with the field `p` written. -/
def State.setP (s : State) (v : Byte) : State := { s with p := v }

/-- The state with the field `pc` written. -/
def State.setPc (s : State) (v : Addr) : State := { s with pc := v }

/-- The state with the field `clockMode` written. -/
def State.setClockMode (s : State) (v : ClockMode) : State := { s with clockMode := v }

/-- The state with the field `pending` written. -/
def State.setPending (s : State) (v : PendingInterrupt) : State := { s with pending := v }

/-- The state with the field `executed` written. -/
def State.setExecuted (s : State) (v : Nat) : State := { s with executed := v }

/-- The state with the field `fault` written. -/
def State.setFault (s : State) (v : Option Fault) : State := { s with fault := v }

/-- The state with the field `mem` written. -/
def State.setMem (s : State) (v : Memory) : State := { s with mem := v }

/-- The state with the field `portLog` written. -/
def State.setPortLog (s : State) (v : List PortCall) : State := { s with portLog := v }

/-- The state with the field `hostReads` written. -/
def State.setHostReads (s : State) (v : Nat) : State := { s with hostReads := v }

/-- The state with the field `schedule` written. -/
def State.setSchedule (s : State) (v : List (List HostInput)) : State := { s with schedule := v }

/-- The core at construction, before any control input (10_state.md R24, 70_reset_and_hazards.md R192):
the clock paused, nothing pending, nothing counted, no fault. The spec leaves the registers unspecified,
so they are arguments: a claim about a core started before its first reset holds for every value of
them. -/
def State.atConstruction (a x y sp p : Byte) (pc : Addr) (mem : Memory) (config : Config) : State where
  a := a
  x := x
  y := y
  sp := sp
  p := p
  pc := pc
  clockMode := .paused
  pending := .none
  executed := 0
  fault := none
  mem := mem
  portLog := []
  hostReads := 0
  schedule := []
  config := config

/-- The machine right after the input `reset()` on a newly constructed core (10_state.md R25, middle
column; 70_reset_and_hazards.md R190). The reset service, which loads `PC` from 0xFFFC, is the head of
the next step. `PC` is the model's choice (log entry 1), as are the empty RAM (log entry 4), the empty
log and schedule (log entries 7 and 8) and the counter `hostReads` (log entry 6). -/
def State.reset : State where
  a := 0
  x := 0
  y := 0
  sp := 0
  p := 0x20
  pc := 0
  clockMode := .running
  pending := .reset
  executed := 0
  fault := none
  mem := []
  portLog := []
  hostReads := 0
  schedule := []
  config := Config.default

end Sys2Proof.Machine
end

