-- ==== Sys2Proof/Machine/Flags.lean ====
section
/-!
DEFINITION. The flags of `P`, the flag helper `Norm`, and every value and flag computation of the
arithmetic, compare, shift, rotate and increment instructions (10_state.md R13, R26, R27; files 42 and
43). Values are computed on naturals and narrowed at the end.
-/

namespace Sys2Proof.Machine

/-- The eight bits of `P` (10_state.md R13): negative, overflow, constant, brk, decimal, disable-IRQ,
zero, carry. -/
inductive Flag where
  | N | V | K | B | D | I | Z | C
deriving DecidableEq, Repr

/-- The bit of `P` a flag stands at (10_state.md R13). -/
def Flag.bit : Flag → Nat
  | .N => 7
  | .V => 6
  | .K => 5
  | .B => 4
  | .D => 3
  | .I => 2
  | .Z => 1
  | .C => 0

/-- `P.f` as a truth value (10_state.md R13). -/
def getFlag (p : Byte) (f : Flag) : Bool :=
  p.getLsbD f.bit

/-- `P.f <- b`: one bit written, the other seven kept (10_state.md R13). -/
def setFlag (p : Byte) (f : Flag) (b : Bool) : Byte :=
  if b then p ||| BitVec.twoPow 8 f.bit else p &&& ~~~BitVec.twoPow 8 f.bit

/-- `P.f` as the number 0 or 1, for the carry-in of sums and rotations (10_state.md R13). -/
def flagNat (p : Byte) (f : Flag) : Nat :=
  (getFlag p f).toNat

/-- The single flag written in the state. -/
def State.writeFlag (s : State) (f : Flag) (b : Bool) : State :=
  s.setP (setFlag s.p f b)

/-- `SetNZ(v)` on a status byte (10_state.md R26): Z iff `v` is 0, N from bit 7 of `v`. -/
def setNZ (v : Byte) (p : Byte) : Byte :=
  setFlag (setFlag p .Z (v == 0)) .N (v.getLsbD 7)

/-- `Norm(raw, checkCarry)` (10_state.md R27): carry from bit 8 of the raw value if asked, N and Z from
the low byte, which is the answer. -/
def norm (raw : Nat) (checkCarry : Bool) (s : State) : Byte × State :=
  let r : Byte := BitVec.ofNat 8 raw
  let p := if checkCarry then setFlag s.p .C (raw.testBit 8) else s.p
  (r, s.setP (setNZ r p))

/-- `A <- Norm(raw, false)`. -/
def normToA (raw : Nat) (s : State) : State :=
  let n := norm raw false s
  n.2.setA n.1

/-- `X <- Norm(raw, false)`. -/
def normToX (raw : Nat) (s : State) : State :=
  let n := norm raw false s
  n.2.setX n.1

/-- `Y <- Norm(raw, false)`. -/
def normToY (raw : Nat) (s : State) : State :=
  let n := norm raw false s
  n.2.setY n.1

/-- The sum of ADC (42_logic_arithmetic_compare.md R103): `raw = A + w + P.C`, V from the signs, then
`A <- Norm(raw, true)`. SBC is the same sum on the complemented operand (R104). `P.D` is not read. -/
def addWithCarry (w : Byte) (s : State) : State :=
  let raw := s.a.toNat + w.toNat + flagNat s.p .C
  let r : Byte := BitVec.ofNat 8 raw
  let s1 := s.writeFlag .V ((w ^^^ r) &&& (s.a ^^^ r) &&& 0x80 != 0)
  let n := norm raw true s1
  n.2.setA n.1

/-- The comparison of a register with `v` (42_logic_arithmetic_compare.md R105 to R107):
`Norm(reg + (v ^ 0xFF) + 1, true)` with the result discarded. -/
def compareWith (reg v : Byte) (s : State) : State :=
  (norm (reg.toNat + (v ^^^ 0xFF).toNat + 1) true s).2

/-- BIT (42_logic_arithmetic_compare.md R108): Z from `A & v`, N and V copied from bits 7 and 6 of
`v`. -/
def bitTest (v : Byte) (s : State) : State :=
  ((s.writeFlag .Z (s.a &&& v == 0)).writeFlag .N (v.getLsbD 7)).writeFlag .V (v.getLsbD 6)

/-- ASL (43_shift_rotate_incdec.md R110): `Norm(v << 1, true)`. -/
def shiftLeft (v : Byte) (s : State) : Byte × State :=
  norm (v.toNat <<< 1) true s

/-- LSR (43_shift_rotate_incdec.md R111): `Norm(v >> 1, false)`, then C from bit 0 of `v`. -/
def shiftRight (v : Byte) (s : State) : Byte × State :=
  let n := norm (v.toNat >>> 1) false s
  (n.1, n.2.writeFlag .C (v.getLsbD 0))

/-- ROL (43_shift_rotate_incdec.md R112): `Norm((v << 1) | P.C, true)` with the old carry. -/
def rotateLeft (v : Byte) (s : State) : Byte × State :=
  norm (v.toNat <<< 1 ||| flagNat s.p .C) true s

/-- ROR (43_shift_rotate_incdec.md R113): `Norm((P.C << 7) | (v >> 1), false)` with the old carry, then
C from bit 0 of `v`. -/
def rotateRight (v : Byte) (s : State) : Byte × State :=
  let n := norm (flagNat s.p .C <<< 7 ||| v.toNat >>> 1) false s
  (n.1, n.2.writeFlag .C (v.getLsbD 0))

/-- INC (43_shift_rotate_incdec.md R114): `Norm(v + 1, false)`. -/
def increment (v : Byte) (s : State) : Byte × State :=
  norm (v.toNat + 1) false s

/-- DEC (43_shift_rotate_incdec.md R115): `Norm(v + 255, false)`. -/
def decrement (v : Byte) (s : State) : Byte × State :=
  norm (v.toNat + 255) false s

end Sys2Proof.Machine
end

