-- ==== Sys2Proof/Machine/Ops.lean ====
section
/-!
DEFINITION. The named operations over memory, the stack and the interrupt latch: the host's RAM, the
memory port (20_memory.md R31 to R35), the stack protocol (R40 to R43), taking an interrupt and
returning from one (60_exceptions.md R170 to R173, 46_system.md R156), raising a fault (R161) and
retiring an instruction (40_execution_and_addressing.md R69).
-/

namespace Sys2Proof.Machine

/-! ### The host's RAM -/

/-- What an address of RAM reads as before anything is written to it: 0x00 (DESIGN CHOICE, log entry 4).
Unsafe. -/
def Memory.unlisted : Byte := 0

/-- The byte at an address. -/
def Memory.read : Memory → Nat → Byte
  | [], _ => Memory.unlisted
  | (k, w) :: m, a => if k = a then w else Memory.read m a

/-- The memory with one byte written, in canonical form again: a byte equal to what an unlisted address
reads as is not listed. -/
def Memory.write : Memory → Nat → Byte → Memory
  | [], a, v => if v = Memory.unlisted then [] else [(a, v)]
  | (k, w) :: m, a, v =>
    if a < k then
      if v = Memory.unlisted then (k, w) :: m else (a, v) :: (k, w) :: m
    else if a = k then
      if v = Memory.unlisted then m else (a, v) :: m
    else (k, w) :: Memory.write m a v

/-- The canonical form from an address upwards. -/
def Memory.wfFrom : Nat → Memory → Bool
  | _, [] => true
  | lo, (k, w) :: m =>
    decide (lo ≤ k) && decide (k < 65536) && decide (w ≠ Memory.unlisted) && Memory.wfFrom (k + 1) m

/-- The canonical form: addresses strictly rising and below 65536 (20_memory.md R30), no entry equal to
what an unlisted address reads as. -/
def Memory.wf (m : Memory) : Bool := Memory.wfFrom 0 m

/-! ### The memory port -/

/-- The host answers this address by something other than plain RAM (20_memory.md R31; log entry 5). -/
def isDevice (cfg : Config) (a : Addr) : Bool :=
  cfg.devices.any fun r => decide (r.first ≤ a) && decide (a ≤ r.last)

/-- The byte RAM holds at an address, read without a port call. -/
def State.peek (s : State) (a : Addr) : Byte :=
  s.mem.read a.toNat

/-- One port call added to the log (60_exceptions.md R187). -/
def State.logCall (s : State) (c : PortCall) : State :=
  s.setPortLog (c :: s.portLog)

/-- `MemRead(addr, 1)` (20_memory.md R31, R32): one port call. Plain RAM answers what it holds; any other
address answers a free byte, a fresh one at each read. -/
def memRead (a : Addr) (s : State) : Byte × State :=
  if isDevice s.config a then
    let v := Config.hostByte s.hostReads a
    (v, (s.logCall (.read a v)).setHostReads (s.hostReads + 1))
  else
    (s.peek a, s.logCall (.read a (s.peek a)))

/-- `MemWrite(addr, 1, v)` (20_memory.md R31, R33): one port call. Plain RAM remembers the byte; a write to
any other address leaves RAM as it is. -/
def memWrite (a : Addr) (v : Byte) (s : State) : State :=
  let s1 := s.logCall (.write a v)
  if isDevice s.config a then s1 else s1.setMem (s1.mem.write a.toNat v)

/-- `MemRead(addr, 2)` (20_memory.md R34): low byte at `addr`, then high byte at `addr + 1` modulo 65536,
with no wrap inside a page. -/
def memRead16 (a : Addr) (s : State) : Addr × State :=
  let lo := memRead a s
  let hi := memRead (a + 1) lo.2
  (wordOf hi.1 lo.1, hi.2)

/-- `MemWrite(addr, 2, v)` (20_memory.md R35): low byte first. No instruction and no interrupt uses it. -/
def memWrite16 (a : Addr) (v : Addr) (s : State) : State :=
  memWrite (a + 1) (hiByte v) (memWrite a (loByte v) s)

/-! ### The stack -/

/-- The address in the stack page that a value of `SP` points at, `0x0100 + SP` (20_memory.md R40). -/
def stackAddr (sp : Byte) : Addr := 0x0100 + zext16 sp

/-- `Push8(v)` (20_memory.md R40). -/
def push8 (v : Byte) (s : State) : State :=
  (memWrite (stackAddr s.sp) v s).setSp (s.sp - 1)

/-- `Pull8()` (20_memory.md R41). -/
def pull8 (s : State) : Byte × State :=
  memRead (stackAddr (s.sp + 1)) (s.setSp (s.sp + 1))

/-- `Push16(v)` (20_memory.md R42): high byte first. -/
def push16 (v : Addr) (s : State) : State :=
  push8 (loByte v) (push8 (hiByte v) s)

/-- `Pull16()` (20_memory.md R43): low byte first. -/
def pull16 (s : State) : Addr × State :=
  let lo := pull8 s
  let hi := pull8 lo.2
  (wordOf hi.1 lo.1, hi.2)

/-! ### Interrupts -/

/-- The reset vector (20_memory.md R39). -/
def resetVector : Addr := 0xFFFC

/-- The IRQ vector (20_memory.md R39). -/
def irqVector : Addr := 0xFFFE

/-- `PC` loaded from a vector and the latch cleared: the end of every service (60_exceptions.md R170,
R171, R172). -/
def jumpThroughVector (vector : Addr) (s : State) : State :=
  let target := memRead16 vector s
  (target.2.setPc target.1).setPending .none

/-- `ServiceReset` (60_exceptions.md R170): nothing is pushed. -/
def serviceReset (s : State) : State := jumpThroughVector resetVector s

/-- Taking an interrupt (60_exceptions.md R171, R172): `PC` pushed, then `P` as held, `P.I` set only
with `ENTRY_SETS_I`, `PC` loaded from the vector, the latch cleared. -/
def enterInterrupt (vector : Addr) (s : State) : State :=
  let s1 := push16 s.pc s
  let s2 := push8 s1.p s1
  let s3 := if s2.config.entrySetsI then s2.writeFlag .I true else s2
  jumpThroughVector vector s3

/-- `ServiceIrq` (60_exceptions.md R171), made only while `P.I` is 0. -/
def serviceIrq (s : State) : State := enterInterrupt irqVector s

/-- `ServiceNmi` (60_exceptions.md R172). -/
def serviceNmi (s : State) : State := enterInterrupt s.config.nmiVector s

/-- `InterruptCheck`, the head of every step (60_exceptions.md R173); a masked `irq` is left as it is
(R168, R174). -/
def interruptCheck (s : State) : State :=
  match s.pending with
  | .none => s
  | .reset => serviceReset s
  | .nmi => serviceNmi s
  | .irq => if getFlag s.p .I then s else serviceIrq s

/-- A byte pulled into `P`: all eight bits as pulled, bit 5 forced to 1 (45_transfer_flag_stack.md R151,
10_state.md R15). -/
def pullStatus (s : State) : State :=
  let v := pull8 s
  v.2.setP (v.1 ||| 0x20)

/-- Returning from an interrupt (46_system.md R156): `P`, then `PC` with no `+ 1`. -/
def returnFromInterrupt (s : State) : State :=
  let target := pull16 (pullStatus s)
  target.2.setPc target.1

/-- An `irq` request put on the latch, with `P.B` written at once (60_exceptions.md R165, 46_system.md
R155). `P.I` is not consulted. -/
def requestIrq (setBrk : Bool) (s : State) : State :=
  (s.writeFlag .B setBrk).setPending .irq

/-- An `nmi` request put on the latch (60_exceptions.md R166). -/
def requestNmi (s : State) : State := s.setPending .nmi

/-! ### Faults and retiring -/

/-- `raise` (60_exceptions.md R161): the fault is latched and nothing else is written. -/
def raiseFault (f : Fault) (s : State) : State := s.setFault (some f)

/-- The execution cap is reached (60_exceptions.md R182). -/
def capReached (cap : Option Nat) (executed : Nat) : Bool :=
  match cap with
  | some m => decide (m ≤ executed)
  | none => false

/-- `Retire` (40_execution_and_addressing.md R69): the instruction is counted, and then the cap pauses
the clock if it is reached. -/
def retire (s : State) : State :=
  let s1 := s.setExecuted (s.executed + 1)
  if capReached s1.config.maxInstructions s1.executed then s1.setClockMode .paused else s1

end Sys2Proof.Machine
end

