-- ==== Sys2Proof/Machine/Operands.lean ====
section
/-!
DEFINITION. The addressing modes (40_execution_and_addressing.md R70 to R82) and how a family composes
with them: read-type (R83), store-type (R84), read-modify-write (R85).
-/

namespace Sys2Proof.Machine

/-- `operand + index` of the zero-page indexed modes (40_execution_and_addressing.md R74, R75): modulo 256
while `ZP_INDEX_WRAP` is true, unreduced otherwise. -/
def zpIndex (cfg : Config) (zp index : Byte) : Addr :=
  if cfg.zpIndexWrap then zext16 (zp + index) else zext16 zp + zext16 index

/-- `EA_m(operand)` (40_execution_and_addressing.md R73 to R80): the effective address, and the state
after the port calls that computing it makes. Only the two indirect modes make any. -/
def effAddr (m : MemOperand) (s : State) : Addr × State :=
  match m with
  | .zeropage zp => (zext16 zp, s)
  | .zeropageX zp => (zpIndex s.config zp s.x, s)
  | .zeropageY zp => (zpIndex s.config zp s.y, s)
  | .absolute addr => (addr, s)
  | .absoluteX addr => (addr + zext16 s.x, s)
  | .absoluteY addr => (addr + zext16 s.y, s)
  | .indexedIndirect zp => memRead16 (zpIndex s.config zp s.x) s
  | .indirectIndexed zp =>
    let base := memRead16 (zext16 zp) s
    (base.1 + zext16 s.y, base.2)

/-- `Fetch_m(operand)` of a memory mode: the byte at the effective address. -/
def fetchMem (m : MemOperand) (s : State) : Byte × State :=
  let ea := effAddr m s
  memRead ea.1 ea.2

/-- `Fetch_m(operand)` of a read-type instruction (40_execution_and_addressing.md R72, R83). -/
def fetch (o : ReadOperand) (s : State) : Byte × State :=
  match o with
  | .immediate v => (v, s)
  | .mem m => fetchMem m s

/-- The store-type wrapper (40_execution_and_addressing.md R84): the effective address, the discarded read
of the target with `STORE_PREREAD`, then the one write. -/
def store (m : MemOperand) (v : Byte) (s : State) : State :=
  let ea := effAddr m s
  let s1 := if ea.2.config.storePreread then (memRead ea.1 ea.2).2 else ea.2
  memWrite ea.1 v s1

/-- The read-modify-write wrapper (40_execution_and_addressing.md R85): one read, the family's `f`, one
write to the same address; or `A` read and written. -/
def modify (o : RmwOperand) (f : Byte → State → Byte × State) (s : State) : State :=
  match o with
  | .accumulator =>
    let r := f s.a s
    r.2.setA r.1
  | .mem m =>
    let ea := effAddr m s
    let v := memRead ea.1 ea.2
    let r := f v.1 v.2
    memWrite ea.1 r.1 r.2

/-- `Target_rel(operand)` (40_execution_and_addressing.md R81): the displacement sign-extended and added to
`PC`, modulo 65536. -/
def relTarget (pc : Addr) (disp : Byte) : Addr :=
  pc + disp.signExtend 16

/-- The common branch rule (44_branch_jump_subroutine.md R120): `PC` already past the operand moves to
the target if the condition holds. -/
def branchIf (cond : Bool) (disp : Byte) (s : State) : State :=
  if cond then s.setPc (relTarget s.pc disp) else s

end Sys2Proof.Machine
end

