-- ==== Sys2Proof/Machine/BranchJump.lean ====
section
/-!
DEFINITION. The meanings of the branch, jump and subroutine instructions (44_branch_jump_subroutine.md R120 to
R132). None writes a flag.
-/

namespace Sys2Proof.Machine

/-- `BPL label`, opcode 10 (44_branch_jump_subroutine.md R121). -/
def execBpl (disp : Byte) (s : State) : Host.Outcome State Fault Refusal :=
  .next (branchIf (!getFlag s.p .N) disp s)

/-- `BMI label`, opcode 30 (44_branch_jump_subroutine.md R122). -/
def execBmi (disp : Byte) (s : State) : Host.Outcome State Fault Refusal :=
  .next (branchIf (getFlag s.p .N) disp s)

/-- `BVC label`, opcode 50 (44_branch_jump_subroutine.md R123). -/
def execBvc (disp : Byte) (s : State) : Host.Outcome State Fault Refusal :=
  .next (branchIf (!getFlag s.p .V) disp s)

/-- `BVS label`, opcode 70 (44_branch_jump_subroutine.md R124). -/
def execBvs (disp : Byte) (s : State) : Host.Outcome State Fault Refusal :=
  .next (branchIf (getFlag s.p .V) disp s)

/-- `BCC label`, opcode 90 (44_branch_jump_subroutine.md R125). -/
def execBcc (disp : Byte) (s : State) : Host.Outcome State Fault Refusal :=
  .next (branchIf (!getFlag s.p .C) disp s)

/-- `BCS label`, opcode B0 (44_branch_jump_subroutine.md R126). -/
def execBcs (disp : Byte) (s : State) : Host.Outcome State Fault Refusal :=
  .next (branchIf (getFlag s.p .C) disp s)

/-- `BNE label`, opcode D0 (44_branch_jump_subroutine.md R127). -/
def execBne (disp : Byte) (s : State) : Host.Outcome State Fault Refusal :=
  .next (branchIf (!getFlag s.p .Z) disp s)

/-- `BEQ label`, opcode F0 (44_branch_jump_subroutine.md R128). -/
def execBeq (disp : Byte) (s : State) : Host.Outcome State Fault Refusal :=
  .next (branchIf (getFlag s.p .Z) disp s)

/-- JMP absolute-indirect (44_branch_jump_subroutine.md R130): the 16-bit read at the pointer has no page wrap. -/
def jumpIndirect (pointer : Addr) (s : State) : State :=
  let target := memRead16 pointer s
  target.2.setPc target.1

/-- `JMP $nnnn`, opcode 4C (44_branch_jump_subroutine.md R129). -/
def execJmpAbs (addr : Addr) (s : State) : Host.Outcome State Fault Refusal :=
  .next (s.setPc addr)

/-- `JMP ($nnnn)`, opcode 6C (44_branch_jump_subroutine.md R130). -/
def execJmpInd (addr : Addr) (s : State) : Host.Outcome State Fault Refusal :=
  .next (jumpIndirect addr s)

/-- JSR (44_branch_jump_subroutine.md R131): `PC - 1`, the address of its own last byte, is pushed. -/
def callSubroutine (target : Addr) (s : State) : State :=
  (push16 (s.pc - 1) s).setPc target

/-- `JSR $nnnn`, opcode 20 (44_branch_jump_subroutine.md R131). -/
def execJsr (addr : Addr) (s : State) : Host.Outcome State Fault Refusal :=
  .next (callSubroutine addr s)

/-- RTS (44_branch_jump_subroutine.md R132): one past the address pulled. -/
def returnFromSubroutine (s : State) : State :=
  let target := pull16 s
  target.2.setPc (target.1 + 1)

/-- `RTS`, opcode 60 (44_branch_jump_subroutine.md R132). -/
def execRts (s : State) : Host.Outcome State Fault Refusal :=
  .next (returnFromSubroutine s)

end Sys2Proof.Machine
end

