-- ==== Sys2Proof/Machine/LoadStore.lean ====
section
/-!
DEFINITION. The meanings of the loads and stores (41_load_store.md R90 to R95). A store writes no flag.
-/

namespace Sys2Proof.Machine

/-- LDA: `A <- Norm(v, false)` (41_load_store.md R90). -/
def loadA (o : ReadOperand) (s : State) : State :=
  let v := fetch o s
  normToA v.1.toNat v.2

/-- `LDA #$nn`, opcode A9 (41_load_store.md R90). -/
def execLdaImm (v : Byte) (s : State) : Host.Outcome State Fault Refusal :=
  .next (loadA (.immediate v) s)

/-- `LDA $nn`, opcode A5 (41_load_store.md R90). -/
def execLdaZp (zp : Byte) (s : State) : Host.Outcome State Fault Refusal :=
  .next (loadA (.mem (.zeropage zp)) s)

/-- `LDA $nn,X`, opcode B5 (41_load_store.md R90). -/
def execLdaZpX (zp : Byte) (s : State) : Host.Outcome State Fault Refusal :=
  .next (loadA (.mem (.zeropageX zp)) s)

/-- `LDA $nnnn`, opcode AD (41_load_store.md R90). -/
def execLdaAbs (addr : Addr) (s : State) : Host.Outcome State Fault Refusal :=
  .next (loadA (.mem (.absolute addr)) s)

/-- `LDA $nnnn,X`, opcode BD (41_load_store.md R90). -/
def execLdaAbsX (addr : Addr) (s : State) : Host.Outcome State Fault Refusal :=
  .next (loadA (.mem (.absoluteX addr)) s)

/-- `LDA $nnnn,Y`, opcode B9 (41_load_store.md R90). -/
def execLdaAbsY (addr : Addr) (s : State) : Host.Outcome State Fault Refusal :=
  .next (loadA (.mem (.absoluteY addr)) s)

/-- `LDA ($nn,X)`, opcode A1 (41_load_store.md R90). -/
def execLdaIndX (zp : Byte) (s : State) : Host.Outcome State Fault Refusal :=
  .next (loadA (.mem (.indexedIndirect zp)) s)

/-- `LDA ($nn),Y`, opcode B1 (41_load_store.md R90). -/
def execLdaIndY (zp : Byte) (s : State) : Host.Outcome State Fault Refusal :=
  .next (loadA (.mem (.indirectIndexed zp)) s)

/-- LDX: `X <- Norm(v, false)` (41_load_store.md R91). -/
def loadX (o : ReadOperand) (s : State) : State :=
  let v := fetch o s
  normToX v.1.toNat v.2

/-- `LDX #$nn`, opcode A2 (41_load_store.md R91). -/
def execLdxImm (v : Byte) (s : State) : Host.Outcome State Fault Refusal :=
  .next (loadX (.immediate v) s)

/-- `LDX $nn`, opcode A6 (41_load_store.md R91). -/
def execLdxZp (zp : Byte) (s : State) : Host.Outcome State Fault Refusal :=
  .next (loadX (.mem (.zeropage zp)) s)

/-- `LDX $nn,Y`, opcode B6 (41_load_store.md R91). -/
def execLdxZpY (zp : Byte) (s : State) : Host.Outcome State Fault Refusal :=
  .next (loadX (.mem (.zeropageY zp)) s)

/-- `LDX $nnnn`, opcode AE (41_load_store.md R91). -/
def execLdxAbs (addr : Addr) (s : State) : Host.Outcome State Fault Refusal :=
  .next (loadX (.mem (.absolute addr)) s)

/-- `LDX $nnnn,Y`, opcode BE (41_load_store.md R91). -/
def execLdxAbsY (addr : Addr) (s : State) : Host.Outcome State Fault Refusal :=
  .next (loadX (.mem (.absoluteY addr)) s)

/-- LDY: `Y <- Norm(v, false)` (41_load_store.md R92). -/
def loadY (o : ReadOperand) (s : State) : State :=
  let v := fetch o s
  normToY v.1.toNat v.2

/-- `LDY #$nn`, opcode A0 (41_load_store.md R92). -/
def execLdyImm (v : Byte) (s : State) : Host.Outcome State Fault Refusal :=
  .next (loadY (.immediate v) s)

/-- `LDY $nn`, opcode A4 (41_load_store.md R92). -/
def execLdyZp (zp : Byte) (s : State) : Host.Outcome State Fault Refusal :=
  .next (loadY (.mem (.zeropage zp)) s)

/-- `LDY $nn,X`, opcode B4 (41_load_store.md R92). -/
def execLdyZpX (zp : Byte) (s : State) : Host.Outcome State Fault Refusal :=
  .next (loadY (.mem (.zeropageX zp)) s)

/-- `LDY $nnnn`, opcode AC (41_load_store.md R92). -/
def execLdyAbs (addr : Addr) (s : State) : Host.Outcome State Fault Refusal :=
  .next (loadY (.mem (.absolute addr)) s)

/-- `LDY $nnnn,X`, opcode BC (41_load_store.md R92). -/
def execLdyAbsX (addr : Addr) (s : State) : Host.Outcome State Fault Refusal :=
  .next (loadY (.mem (.absoluteX addr)) s)

/-- `STA $nn`, opcode 85 (41_load_store.md R93). -/
def execStaZp (zp : Byte) (s : State) : Host.Outcome State Fault Refusal :=
  .next (store (.zeropage zp) s.a s)

/-- `STA $nn,X`, opcode 95 (41_load_store.md R93). -/
def execStaZpX (zp : Byte) (s : State) : Host.Outcome State Fault Refusal :=
  .next (store (.zeropageX zp) s.a s)

/-- `STA $nnnn`, opcode 8D (41_load_store.md R93). -/
def execStaAbs (addr : Addr) (s : State) : Host.Outcome State Fault Refusal :=
  .next (store (.absolute addr) s.a s)

/-- `STA $nnnn,X`, opcode 9D (41_load_store.md R93). -/
def execStaAbsX (addr : Addr) (s : State) : Host.Outcome State Fault Refusal :=
  .next (store (.absoluteX addr) s.a s)

/-- `STA $nnnn,Y`, opcode 99 (41_load_store.md R93). -/
def execStaAbsY (addr : Addr) (s : State) : Host.Outcome State Fault Refusal :=
  .next (store (.absoluteY addr) s.a s)

/-- `STA ($nn,X)`, opcode 81 (41_load_store.md R93). -/
def execStaIndX (zp : Byte) (s : State) : Host.Outcome State Fault Refusal :=
  .next (store (.indexedIndirect zp) s.a s)

/-- `STA ($nn),Y`, opcode 91 (41_load_store.md R93). -/
def execStaIndY (zp : Byte) (s : State) : Host.Outcome State Fault Refusal :=
  .next (store (.indirectIndexed zp) s.a s)

/-- `STX $nn`, opcode 86 (41_load_store.md R94). -/
def execStxZp (zp : Byte) (s : State) : Host.Outcome State Fault Refusal :=
  .next (store (.zeropage zp) s.x s)

/-- `STX $nn,Y`, opcode 96 (41_load_store.md R94). -/
def execStxZpY (zp : Byte) (s : State) : Host.Outcome State Fault Refusal :=
  .next (store (.zeropageY zp) s.x s)

/-- `STX $nnnn`, opcode 8E (41_load_store.md R94). -/
def execStxAbs (addr : Addr) (s : State) : Host.Outcome State Fault Refusal :=
  .next (store (.absolute addr) s.x s)

/-- `STY $nn`, opcode 84 (41_load_store.md R95). -/
def execStyZp (zp : Byte) (s : State) : Host.Outcome State Fault Refusal :=
  .next (store (.zeropage zp) s.y s)

/-- `STY $nn,X`, opcode 94 (41_load_store.md R95). -/
def execStyZpX (zp : Byte) (s : State) : Host.Outcome State Fault Refusal :=
  .next (store (.zeropageX zp) s.y s)

/-- `STY $nnnn`, opcode 8C (41_load_store.md R95). -/
def execStyAbs (addr : Addr) (s : State) : Host.Outcome State Fault Refusal :=
  .next (store (.absolute addr) s.y s)

end Sys2Proof.Machine
end

