-- ==== Sys2Proof/Machine/LogicArithmetic.lean ====
section
/-!
DEFINITION. The meanings of the logic, arithmetic and compare instructions (42_logic_arithmetic_compare.md R100 to
R108). All are read-type and write no memory.
-/

namespace Sys2Proof.Machine

/-- ORA: `A <- Norm(A | v, false)` (42_logic_arithmetic_compare.md R100). -/
def orA (o : ReadOperand) (s : State) : State :=
  let v := fetch o s
  normToA (v.2.a ||| v.1).toNat v.2

/-- `ORA #$nn`, opcode 09 (42_logic_arithmetic_compare.md R100). -/
def execOraImm (v : Byte) (s : State) : Host.Outcome State Fault Refusal :=
  .next (orA (.immediate v) s)

/-- `ORA $nn`, opcode 05 (42_logic_arithmetic_compare.md R100). -/
def execOraZp (zp : Byte) (s : State) : Host.Outcome State Fault Refusal :=
  .next (orA (.mem (.zeropage zp)) s)

/-- `ORA $nn,X`, opcode 15 (42_logic_arithmetic_compare.md R100). -/
def execOraZpX (zp : Byte) (s : State) : Host.Outcome State Fault Refusal :=
  .next (orA (.mem (.zeropageX zp)) s)

/-- `ORA $nnnn`, opcode 0D (42_logic_arithmetic_compare.md R100). -/
def execOraAbs (addr : Addr) (s : State) : Host.Outcome State Fault Refusal :=
  .next (orA (.mem (.absolute addr)) s)

/-- `ORA $nnnn,X`, opcode 1D (42_logic_arithmetic_compare.md R100). -/
def execOraAbsX (addr : Addr) (s : State) : Host.Outcome State Fault Refusal :=
  .next (orA (.mem (.absoluteX addr)) s)

/-- `ORA $nnnn,Y`, opcode 19 (42_logic_arithmetic_compare.md R100). -/
def execOraAbsY (addr : Addr) (s : State) : Host.Outcome State Fault Refusal :=
  .next (orA (.mem (.absoluteY addr)) s)

/-- `ORA ($nn,X)`, opcode 01 (42_logic_arithmetic_compare.md R100). -/
def execOraIndX (zp : Byte) (s : State) : Host.Outcome State Fault Refusal :=
  .next (orA (.mem (.indexedIndirect zp)) s)

/-- `ORA ($nn),Y`, opcode 11 (42_logic_arithmetic_compare.md R100). -/
def execOraIndY (zp : Byte) (s : State) : Host.Outcome State Fault Refusal :=
  .next (orA (.mem (.indirectIndexed zp)) s)

/-- AND: `A <- Norm(A & v, false)` (42_logic_arithmetic_compare.md R101). -/
def andA (o : ReadOperand) (s : State) : State :=
  let v := fetch o s
  normToA (v.2.a &&& v.1).toNat v.2

/-- `AND #$nn`, opcode 29 (42_logic_arithmetic_compare.md R101). -/
def execAndImm (v : Byte) (s : State) : Host.Outcome State Fault Refusal :=
  .next (andA (.immediate v) s)

/-- `AND $nn`, opcode 25 (42_logic_arithmetic_compare.md R101). -/
def execAndZp (zp : Byte) (s : State) : Host.Outcome State Fault Refusal :=
  .next (andA (.mem (.zeropage zp)) s)

/-- `AND $nn,X`, opcode 35 (42_logic_arithmetic_compare.md R101). -/
def execAndZpX (zp : Byte) (s : State) : Host.Outcome State Fault Refusal :=
  .next (andA (.mem (.zeropageX zp)) s)

/-- `AND $nnnn`, opcode 2D (42_logic_arithmetic_compare.md R101). -/
def execAndAbs (addr : Addr) (s : State) : Host.Outcome State Fault Refusal :=
  .next (andA (.mem (.absolute addr)) s)

/-- `AND $nnnn,X`, opcode 3D (42_logic_arithmetic_compare.md R101). -/
def execAndAbsX (addr : Addr) (s : State) : Host.Outcome State Fault Refusal :=
  .next (andA (.mem (.absoluteX addr)) s)

/-- `AND $nnnn,Y`, opcode 39 (42_logic_arithmetic_compare.md R101). -/
def execAndAbsY (addr : Addr) (s : State) : Host.Outcome State Fault Refusal :=
  .next (andA (.mem (.absoluteY addr)) s)

/-- `AND ($nn,X)`, opcode 21 (42_logic_arithmetic_compare.md R101). -/
def execAndIndX (zp : Byte) (s : State) : Host.Outcome State Fault Refusal :=
  .next (andA (.mem (.indexedIndirect zp)) s)

/-- `AND ($nn),Y`, opcode 31 (42_logic_arithmetic_compare.md R101). -/
def execAndIndY (zp : Byte) (s : State) : Host.Outcome State Fault Refusal :=
  .next (andA (.mem (.indirectIndexed zp)) s)

/-- EOR: `A <- Norm(A ^ v, false)` (42_logic_arithmetic_compare.md R102). -/
def eorA (o : ReadOperand) (s : State) : State :=
  let v := fetch o s
  normToA (v.2.a ^^^ v.1).toNat v.2

/-- `EOR #$nn`, opcode 49 (42_logic_arithmetic_compare.md R102). -/
def execEorImm (v : Byte) (s : State) : Host.Outcome State Fault Refusal :=
  .next (eorA (.immediate v) s)

/-- `EOR $nn`, opcode 45 (42_logic_arithmetic_compare.md R102). -/
def execEorZp (zp : Byte) (s : State) : Host.Outcome State Fault Refusal :=
  .next (eorA (.mem (.zeropage zp)) s)

/-- `EOR $nn,X`, opcode 55 (42_logic_arithmetic_compare.md R102). -/
def execEorZpX (zp : Byte) (s : State) : Host.Outcome State Fault Refusal :=
  .next (eorA (.mem (.zeropageX zp)) s)

/-- `EOR $nnnn`, opcode 4D (42_logic_arithmetic_compare.md R102). -/
def execEorAbs (addr : Addr) (s : State) : Host.Outcome State Fault Refusal :=
  .next (eorA (.mem (.absolute addr)) s)

/-- `EOR $nnnn,X`, opcode 5D (42_logic_arithmetic_compare.md R102). -/
def execEorAbsX (addr : Addr) (s : State) : Host.Outcome State Fault Refusal :=
  .next (eorA (.mem (.absoluteX addr)) s)

/-- `EOR $nnnn,Y`, opcode 59 (42_logic_arithmetic_compare.md R102). -/
def execEorAbsY (addr : Addr) (s : State) : Host.Outcome State Fault Refusal :=
  .next (eorA (.mem (.absoluteY addr)) s)

/-- `EOR ($nn,X)`, opcode 41 (42_logic_arithmetic_compare.md R102). -/
def execEorIndX (zp : Byte) (s : State) : Host.Outcome State Fault Refusal :=
  .next (eorA (.mem (.indexedIndirect zp)) s)

/-- `EOR ($nn),Y`, opcode 51 (42_logic_arithmetic_compare.md R102). -/
def execEorIndY (zp : Byte) (s : State) : Host.Outcome State Fault Refusal :=
  .next (eorA (.mem (.indirectIndexed zp)) s)

/-- ADC (42_logic_arithmetic_compare.md R103). -/
def addToA (o : ReadOperand) (s : State) : State :=
  let v := fetch o s
  addWithCarry v.1 v.2

/-- `ADC #$nn`, opcode 69 (42_logic_arithmetic_compare.md R103). -/
def execAdcImm (v : Byte) (s : State) : Host.Outcome State Fault Refusal :=
  .next (addToA (.immediate v) s)

/-- `ADC $nn`, opcode 65 (42_logic_arithmetic_compare.md R103). -/
def execAdcZp (zp : Byte) (s : State) : Host.Outcome State Fault Refusal :=
  .next (addToA (.mem (.zeropage zp)) s)

/-- `ADC $nn,X`, opcode 75 (42_logic_arithmetic_compare.md R103). -/
def execAdcZpX (zp : Byte) (s : State) : Host.Outcome State Fault Refusal :=
  .next (addToA (.mem (.zeropageX zp)) s)

/-- `ADC $nnnn`, opcode 6D (42_logic_arithmetic_compare.md R103). -/
def execAdcAbs (addr : Addr) (s : State) : Host.Outcome State Fault Refusal :=
  .next (addToA (.mem (.absolute addr)) s)

/-- `ADC $nnnn,X`, opcode 7D (42_logic_arithmetic_compare.md R103). -/
def execAdcAbsX (addr : Addr) (s : State) : Host.Outcome State Fault Refusal :=
  .next (addToA (.mem (.absoluteX addr)) s)

/-- `ADC $nnnn,Y`, opcode 79 (42_logic_arithmetic_compare.md R103). -/
def execAdcAbsY (addr : Addr) (s : State) : Host.Outcome State Fault Refusal :=
  .next (addToA (.mem (.absoluteY addr)) s)

/-- `ADC ($nn,X)`, opcode 61 (42_logic_arithmetic_compare.md R103). -/
def execAdcIndX (zp : Byte) (s : State) : Host.Outcome State Fault Refusal :=
  .next (addToA (.mem (.indexedIndirect zp)) s)

/-- `ADC ($nn),Y`, opcode 71 (42_logic_arithmetic_compare.md R103). -/
def execAdcIndY (zp : Byte) (s : State) : Host.Outcome State Fault Refusal :=
  .next (addToA (.mem (.indirectIndexed zp)) s)

/-- SBC: ADC of the one's complement of the operand (42_logic_arithmetic_compare.md R104). -/
def subtractFromA (o : ReadOperand) (s : State) : State :=
  let v := fetch o s
  addWithCarry (v.1 ^^^ 0xFF) v.2

/-- `SBC #$nn`, opcode E9 (42_logic_arithmetic_compare.md R104). -/
def execSbcImm (v : Byte) (s : State) : Host.Outcome State Fault Refusal :=
  .next (subtractFromA (.immediate v) s)

/-- `SBC $nn`, opcode E5 (42_logic_arithmetic_compare.md R104). -/
def execSbcZp (zp : Byte) (s : State) : Host.Outcome State Fault Refusal :=
  .next (subtractFromA (.mem (.zeropage zp)) s)

/-- `SBC $nn,X`, opcode F5 (42_logic_arithmetic_compare.md R104). -/
def execSbcZpX (zp : Byte) (s : State) : Host.Outcome State Fault Refusal :=
  .next (subtractFromA (.mem (.zeropageX zp)) s)

/-- `SBC $nnnn`, opcode ED (42_logic_arithmetic_compare.md R104). -/
def execSbcAbs (addr : Addr) (s : State) : Host.Outcome State Fault Refusal :=
  .next (subtractFromA (.mem (.absolute addr)) s)

/-- `SBC $nnnn,X`, opcode FD (42_logic_arithmetic_compare.md R104). -/
def execSbcAbsX (addr : Addr) (s : State) : Host.Outcome State Fault Refusal :=
  .next (subtractFromA (.mem (.absoluteX addr)) s)

/-- `SBC $nnnn,Y`, opcode F9 (42_logic_arithmetic_compare.md R104). -/
def execSbcAbsY (addr : Addr) (s : State) : Host.Outcome State Fault Refusal :=
  .next (subtractFromA (.mem (.absoluteY addr)) s)

/-- `SBC ($nn,X)`, opcode E1 (42_logic_arithmetic_compare.md R104). -/
def execSbcIndX (zp : Byte) (s : State) : Host.Outcome State Fault Refusal :=
  .next (subtractFromA (.mem (.indexedIndirect zp)) s)

/-- `SBC ($nn),Y`, opcode F1 (42_logic_arithmetic_compare.md R104). -/
def execSbcIndY (zp : Byte) (s : State) : Host.Outcome State Fault Refusal :=
  .next (subtractFromA (.mem (.indirectIndexed zp)) s)

/-- CMP (42_logic_arithmetic_compare.md R105). -/
def compareA (o : ReadOperand) (s : State) : State :=
  let v := fetch o s
  compareWith v.2.a v.1 v.2

/-- `CMP #$nn`, opcode C9 (42_logic_arithmetic_compare.md R105). -/
def execCmpImm (v : Byte) (s : State) : Host.Outcome State Fault Refusal :=
  .next (compareA (.immediate v) s)

/-- `CMP $nn`, opcode C5 (42_logic_arithmetic_compare.md R105). -/
def execCmpZp (zp : Byte) (s : State) : Host.Outcome State Fault Refusal :=
  .next (compareA (.mem (.zeropage zp)) s)

/-- `CMP $nn,X`, opcode D5 (42_logic_arithmetic_compare.md R105). -/
def execCmpZpX (zp : Byte) (s : State) : Host.Outcome State Fault Refusal :=
  .next (compareA (.mem (.zeropageX zp)) s)

/-- `CMP $nnnn`, opcode CD (42_logic_arithmetic_compare.md R105). -/
def execCmpAbs (addr : Addr) (s : State) : Host.Outcome State Fault Refusal :=
  .next (compareA (.mem (.absolute addr)) s)

/-- `CMP $nnnn,X`, opcode DD (42_logic_arithmetic_compare.md R105). -/
def execCmpAbsX (addr : Addr) (s : State) : Host.Outcome State Fault Refusal :=
  .next (compareA (.mem (.absoluteX addr)) s)

/-- `CMP $nnnn,Y`, opcode D9 (42_logic_arithmetic_compare.md R105). -/
def execCmpAbsY (addr : Addr) (s : State) : Host.Outcome State Fault Refusal :=
  .next (compareA (.mem (.absoluteY addr)) s)

/-- `CMP ($nn,X)`, opcode C1 (42_logic_arithmetic_compare.md R105). -/
def execCmpIndX (zp : Byte) (s : State) : Host.Outcome State Fault Refusal :=
  .next (compareA (.mem (.indexedIndirect zp)) s)

/-- `CMP ($nn),Y`, opcode D1 (42_logic_arithmetic_compare.md R105). -/
def execCmpIndY (zp : Byte) (s : State) : Host.Outcome State Fault Refusal :=
  .next (compareA (.mem (.indirectIndexed zp)) s)

/-- CPX (42_logic_arithmetic_compare.md R106). -/
def compareX (o : ReadOperand) (s : State) : State :=
  let v := fetch o s
  compareWith v.2.x v.1 v.2

/-- `CPX #$nn`, opcode E0 (42_logic_arithmetic_compare.md R106). -/
def execCpxImm (v : Byte) (s : State) : Host.Outcome State Fault Refusal :=
  .next (compareX (.immediate v) s)

/-- `CPX $nn`, opcode E4 (42_logic_arithmetic_compare.md R106). -/
def execCpxZp (zp : Byte) (s : State) : Host.Outcome State Fault Refusal :=
  .next (compareX (.mem (.zeropage zp)) s)

/-- `CPX $nnnn`, opcode EC (42_logic_arithmetic_compare.md R106). -/
def execCpxAbs (addr : Addr) (s : State) : Host.Outcome State Fault Refusal :=
  .next (compareX (.mem (.absolute addr)) s)

/-- CPY (42_logic_arithmetic_compare.md R107). -/
def compareY (o : ReadOperand) (s : State) : State :=
  let v := fetch o s
  compareWith v.2.y v.1 v.2

/-- `CPY #$nn`, opcode C0 (42_logic_arithmetic_compare.md R107). -/
def execCpyImm (v : Byte) (s : State) : Host.Outcome State Fault Refusal :=
  .next (compareY (.immediate v) s)

/-- `CPY $nn`, opcode C4 (42_logic_arithmetic_compare.md R107). -/
def execCpyZp (zp : Byte) (s : State) : Host.Outcome State Fault Refusal :=
  .next (compareY (.mem (.zeropage zp)) s)

/-- `CPY $nnnn`, opcode CC (42_logic_arithmetic_compare.md R107). -/
def execCpyAbs (addr : Addr) (s : State) : Host.Outcome State Fault Refusal :=
  .next (compareY (.mem (.absolute addr)) s)

/-- BIT (42_logic_arithmetic_compare.md R108). -/
def testBits (o : ReadOperand) (s : State) : State :=
  let v := fetch o s
  bitTest v.1 v.2

/-- `BIT $nn`, opcode 24 (42_logic_arithmetic_compare.md R108). -/
def execBitZp (zp : Byte) (s : State) : Host.Outcome State Fault Refusal :=
  .next (testBits (.mem (.zeropage zp)) s)

/-- `BIT $nnnn`, opcode 2C (42_logic_arithmetic_compare.md R108). -/
def execBitAbs (addr : Addr) (s : State) : Host.Outcome State Fault Refusal :=
  .next (testBits (.mem (.absolute addr)) s)

end Sys2Proof.Machine
end

