-- ==== Sys2Proof/Machine/ShiftIncDec.lean ====
section
/-!
DEFINITION. The meanings of the shift, rotate, increment and decrement instructions (43_shift_rotate_incdec.md
R110 to R119), over the read-modify-write wrapper and the computations of Flags.lean.
-/

namespace Sys2Proof.Machine

/-- `ASL A`, opcode 0A (43_shift_rotate_incdec.md R110). -/
def execAslAcc (s : State) : Host.Outcome State Fault Refusal :=
  .next (modify .accumulator shiftLeft s)

/-- `ASL $nn`, opcode 06 (43_shift_rotate_incdec.md R110). -/
def execAslZp (zp : Byte) (s : State) : Host.Outcome State Fault Refusal :=
  .next (modify (.mem (.zeropage zp)) shiftLeft s)

/-- `ASL $nn,X`, opcode 16 (43_shift_rotate_incdec.md R110). -/
def execAslZpX (zp : Byte) (s : State) : Host.Outcome State Fault Refusal :=
  .next (modify (.mem (.zeropageX zp)) shiftLeft s)

/-- `ASL $nnnn`, opcode 0E (43_shift_rotate_incdec.md R110). -/
def execAslAbs (addr : Addr) (s : State) : Host.Outcome State Fault Refusal :=
  .next (modify (.mem (.absolute addr)) shiftLeft s)

/-- `ASL $nnnn,X`, opcode 1E (43_shift_rotate_incdec.md R110). -/
def execAslAbsX (addr : Addr) (s : State) : Host.Outcome State Fault Refusal :=
  .next (modify (.mem (.absoluteX addr)) shiftLeft s)

/-- `LSR A`, opcode 4A (43_shift_rotate_incdec.md R111). -/
def execLsrAcc (s : State) : Host.Outcome State Fault Refusal :=
  .next (modify .accumulator shiftRight s)

/-- `LSR $nn`, opcode 46 (43_shift_rotate_incdec.md R111). -/
def execLsrZp (zp : Byte) (s : State) : Host.Outcome State Fault Refusal :=
  .next (modify (.mem (.zeropage zp)) shiftRight s)

/-- `LSR $nn,X`, opcode 56 (43_shift_rotate_incdec.md R111). -/
def execLsrZpX (zp : Byte) (s : State) : Host.Outcome State Fault Refusal :=
  .next (modify (.mem (.zeropageX zp)) shiftRight s)

/-- `LSR $nnnn`, opcode 4E (43_shift_rotate_incdec.md R111). -/
def execLsrAbs (addr : Addr) (s : State) : Host.Outcome State Fault Refusal :=
  .next (modify (.mem (.absolute addr)) shiftRight s)

/-- `LSR $nnnn,X`, opcode 5E (43_shift_rotate_incdec.md R111). -/
def execLsrAbsX (addr : Addr) (s : State) : Host.Outcome State Fault Refusal :=
  .next (modify (.mem (.absoluteX addr)) shiftRight s)

/-- `ROL A`, opcode 2A (43_shift_rotate_incdec.md R112). -/
def execRolAcc (s : State) : Host.Outcome State Fault Refusal :=
  .next (modify .accumulator rotateLeft s)

/-- `ROL $nn`, opcode 26 (43_shift_rotate_incdec.md R112). -/
def execRolZp (zp : Byte) (s : State) : Host.Outcome State Fault Refusal :=
  .next (modify (.mem (.zeropage zp)) rotateLeft s)

/-- `ROL $nn,X`, opcode 36 (43_shift_rotate_incdec.md R112). -/
def execRolZpX (zp : Byte) (s : State) : Host.Outcome State Fault Refusal :=
  .next (modify (.mem (.zeropageX zp)) rotateLeft s)

/-- `ROL $nnnn`, opcode 2E (43_shift_rotate_incdec.md R112). -/
def execRolAbs (addr : Addr) (s : State) : Host.Outcome State Fault Refusal :=
  .next (modify (.mem (.absolute addr)) rotateLeft s)

/-- `ROL $nnnn,X`, opcode 3E (43_shift_rotate_incdec.md R112). -/
def execRolAbsX (addr : Addr) (s : State) : Host.Outcome State Fault Refusal :=
  .next (modify (.mem (.absoluteX addr)) rotateLeft s)

/-- `ROR A`, opcode 6A (43_shift_rotate_incdec.md R113). -/
def execRorAcc (s : State) : Host.Outcome State Fault Refusal :=
  .next (modify .accumulator rotateRight s)

/-- `ROR $nn`, opcode 66 (43_shift_rotate_incdec.md R113). -/
def execRorZp (zp : Byte) (s : State) : Host.Outcome State Fault Refusal :=
  .next (modify (.mem (.zeropage zp)) rotateRight s)

/-- `ROR $nn,X`, opcode 76 (43_shift_rotate_incdec.md R113). -/
def execRorZpX (zp : Byte) (s : State) : Host.Outcome State Fault Refusal :=
  .next (modify (.mem (.zeropageX zp)) rotateRight s)

/-- `ROR $nnnn`, opcode 6E (43_shift_rotate_incdec.md R113). -/
def execRorAbs (addr : Addr) (s : State) : Host.Outcome State Fault Refusal :=
  .next (modify (.mem (.absolute addr)) rotateRight s)

/-- `ROR $nnnn,X`, opcode 7E (43_shift_rotate_incdec.md R113). -/
def execRorAbsX (addr : Addr) (s : State) : Host.Outcome State Fault Refusal :=
  .next (modify (.mem (.absoluteX addr)) rotateRight s)

/-- `INC $nn`, opcode E6 (43_shift_rotate_incdec.md R114). -/
def execIncZp (zp : Byte) (s : State) : Host.Outcome State Fault Refusal :=
  .next (modify (.mem (.zeropage zp)) increment s)

/-- `INC $nn,X`, opcode F6 (43_shift_rotate_incdec.md R114). -/
def execIncZpX (zp : Byte) (s : State) : Host.Outcome State Fault Refusal :=
  .next (modify (.mem (.zeropageX zp)) increment s)

/-- `INC $nnnn`, opcode EE (43_shift_rotate_incdec.md R114). -/
def execIncAbs (addr : Addr) (s : State) : Host.Outcome State Fault Refusal :=
  .next (modify (.mem (.absolute addr)) increment s)

/-- `INC $nnnn,X`, opcode FE (43_shift_rotate_incdec.md R114). -/
def execIncAbsX (addr : Addr) (s : State) : Host.Outcome State Fault Refusal :=
  .next (modify (.mem (.absoluteX addr)) increment s)

/-- `DEC $nn`, opcode C6 (43_shift_rotate_incdec.md R115). -/
def execDecZp (zp : Byte) (s : State) : Host.Outcome State Fault Refusal :=
  .next (modify (.mem (.zeropage zp)) decrement s)

/-- `DEC $nn,X`, opcode D6 (43_shift_rotate_incdec.md R115). -/
def execDecZpX (zp : Byte) (s : State) : Host.Outcome State Fault Refusal :=
  .next (modify (.mem (.zeropageX zp)) decrement s)

/-- `DEC $nnnn`, opcode CE (43_shift_rotate_incdec.md R115). -/
def execDecAbs (addr : Addr) (s : State) : Host.Outcome State Fault Refusal :=
  .next (modify (.mem (.absolute addr)) decrement s)

/-- `DEC $nnnn,X`, opcode DE (43_shift_rotate_incdec.md R115). -/
def execDecAbsX (addr : Addr) (s : State) : Host.Outcome State Fault Refusal :=
  .next (modify (.mem (.absoluteX addr)) decrement s)

/-- `INX`, opcode E8 (43_shift_rotate_incdec.md R116). -/
def execInx (s : State) : Host.Outcome State Fault Refusal :=
  .next (normToX (s.x.toNat + 1) s)

/-- `INY`, opcode C8 (43_shift_rotate_incdec.md R117). -/
def execIny (s : State) : Host.Outcome State Fault Refusal :=
  .next (normToY (s.y.toNat + 1) s)

/-- `DEX`, opcode CA (43_shift_rotate_incdec.md R118). -/
def execDex (s : State) : Host.Outcome State Fault Refusal :=
  .next (normToX (s.x.toNat + 255) s)

/-- `DEY`, opcode 88 (43_shift_rotate_incdec.md R119). -/
def execDey (s : State) : Host.Outcome State Fault Refusal :=
  .next (normToY (s.y.toNat + 255) s)

end Sys2Proof.Machine
end

