-- ==== Sys2Proof/Machine/System.lean ====
section
/-!
DEFINITION. The meanings of BRK, RTI and WAI (46_system.md R155 to R157). BRK only files the request; the interrupt
check of the next step delivers it.
-/

namespace Sys2Proof.Machine

/-- `BRK`, opcode 00 (46_system.md R155). -/
def execBrk (s : State) : Host.Outcome State Fault Refusal :=
  .next (requestIrq true s)

/-- `RTI`, opcode 40 (46_system.md R156). -/
def execRti (s : State) : Host.Outcome State Fault Refusal :=
  .next (returnFromInterrupt s)

/-- `WAI`, opcode CB (46_system.md R157). -/
def execWai (s : State) : Host.Outcome State Fault Refusal :=
  .next (s.setClockMode .waitForInterrupt)

end Sys2Proof.Machine
end

