-- ==== Sys2Proof/Machine/TransferFlagStack.lean ====
section
/-!
DEFINITION. The meanings of the transfer, flag, stack and no-operation instructions (45_transfer_flag_stack.md
R135 to R152).
-/

namespace Sys2Proof.Machine

/-- `TAX`, opcode AA (45_transfer_flag_stack.md R135). -/
def execTax (s : State) : Host.Outcome State Fault Refusal :=
  .next (normToX s.a.toNat s)

/-- `TXA`, opcode 8A (45_transfer_flag_stack.md R136). -/
def execTxa (s : State) : Host.Outcome State Fault Refusal :=
  .next (normToA s.x.toNat s)

/-- `TAY`, opcode A8 (45_transfer_flag_stack.md R137). -/
def execTay (s : State) : Host.Outcome State Fault Refusal :=
  .next (normToY s.a.toNat s)

/-- `TYA`, opcode 98 (45_transfer_flag_stack.md R138). -/
def execTya (s : State) : Host.Outcome State Fault Refusal :=
  .next (normToA s.y.toNat s)

/-- `TSX`, opcode BA (45_transfer_flag_stack.md R139). -/
def execTsx (s : State) : Host.Outcome State Fault Refusal :=
  .next (normToX s.sp.toNat s)

/-- `TXS`, opcode 9A (45_transfer_flag_stack.md R140). -/
def execTxs (s : State) : Host.Outcome State Fault Refusal :=
  .next (s.setSp s.x)

/-- `CLC`, opcode 18 (45_transfer_flag_stack.md R141). -/
def execClc (s : State) : Host.Outcome State Fault Refusal :=
  .next (s.writeFlag .C false)

/-- `SEC`, opcode 38 (45_transfer_flag_stack.md R142). -/
def execSec (s : State) : Host.Outcome State Fault Refusal :=
  .next (s.writeFlag .C true)

/-- `CLI`, opcode 58 (45_transfer_flag_stack.md R143). -/
def execCli (s : State) : Host.Outcome State Fault Refusal :=
  .next (s.writeFlag .I false)

/-- `SEI`, opcode 78 (45_transfer_flag_stack.md R144). -/
def execSei (s : State) : Host.Outcome State Fault Refusal :=
  .next (s.writeFlag .I true)

/-- `CLV`, opcode B8 (45_transfer_flag_stack.md R145). -/
def execClv (s : State) : Host.Outcome State Fault Refusal :=
  .next (s.writeFlag .V false)

/-- `CLD`, opcode D8 (45_transfer_flag_stack.md R146). -/
def execCld (s : State) : Host.Outcome State Fault Refusal :=
  .next (s.writeFlag .D false)

/-- `SED`, opcode F8 (45_transfer_flag_stack.md R147). -/
def execSed (s : State) : Host.Outcome State Fault Refusal :=
  .next (s.writeFlag .D true)

/-- `PHA`, opcode 48 (45_transfer_flag_stack.md R148). -/
def execPha (s : State) : Host.Outcome State Fault Refusal :=
  .next (push8 s.a s)

/-- PLA: `A <- Norm(Pull8(), false)` (45_transfer_flag_stack.md R149). -/
def pullA (s : State) : State :=
  let v := pull8 s
  normToA v.1.toNat v.2

/-- `PLA`, opcode 68 (45_transfer_flag_stack.md R149). -/
def execPla (s : State) : Host.Outcome State Fault Refusal :=
  .next (pullA s)

/-- `PHP`, opcode 08 (45_transfer_flag_stack.md R150). -/
def execPhp (s : State) : Host.Outcome State Fault Refusal :=
  .next (push8 s.p s)

/-- `PLP`, opcode 28 (45_transfer_flag_stack.md R151). -/
def execPlp (s : State) : Host.Outcome State Fault Refusal :=
  .next (pullStatus s)

/-- `NOP`, opcode EA (45_transfer_flag_stack.md R152). -/
def execNop (s : State) : Host.Outcome State Fault Refusal :=
  .next s

end Sys2Proof.Machine
end

