-- ==== Sys2Proof/Machine/Fetch.lean ====
section
/-!
DEFINITION. The fetch, decode and operand stages of a step (40_execution_and_addressing.md R66 to R68).
-/

namespace Sys2Proof.Machine

/-- The byte at `PC` read through the port and `PC` moved past it (40_execution_and_addressing.md R66,
R68). -/
def fetchByte (s : State) : Byte × State :=
  let v := memRead s.pc s
  (v.1, v.2.setPc (s.pc + 1))

/-- The word at `PC`, low byte first, and `PC` moved past it (40_execution_and_addressing.md R68). -/
def fetchWord (s : State) : Addr × State :=
  let v := memRead16 s.pc s
  (v.1, v.2.setPc (s.pc + 2))

/-- The opcode, its descriptor and its operand (40_execution_and_addressing.md R66 to R68): the
instruction and the state in which its semantics begin, or the unbound opcode byte and the state the
fetch stage left. -/
def fetchInstr (s : State) : Except Byte Instr × State :=
  let op := fetchByte s
  match decodeOpcode s.config op.1 with
  | none => (.error op.1, op.2)
  | some (.noOperand i) => (.ok i, op.2)
  | some (.byteOperand f) =>
    let v := fetchByte op.2
    (.ok (f v.1), v.2)
  | some (.wordOperand f) =>
    let v := fetchWord op.2
    (.ok (f v.1), v.2)

end Sys2Proof.Machine
end

