-- ==== Sys2Proof/Machine/Inputs.lean ====
section
/-!
DEFINITION. The five control inputs of the host (60_exceptions.md R165, R166, R176, R177, R179;
70_reset_and_hazards.md R190) and the batch of them that lands at a step boundary.
-/

namespace Sys2Proof.Machine

/-- A trigger wakes the core from `waitForInterrupt` and from nothing else (60_exceptions.md R165,
R180). -/
def wake (s : State) : State :=
  if s.clockMode = .waitForInterrupt then s.setClockMode .running else s

/-- `reset()` (70_reset_and_hazards.md R190): the registers at once, the request on the latch, the clock
running; `PC` and the counter stay. -/
def inputReset (s : State) : State :=
  ((((((s.setA 0).setX 0).setY 0).setSp 0).setP 0x20).setPending .reset).setClockMode .running

/-- `triggerIRQB(setBrk)` (60_exceptions.md R165). -/
def inputIrq (setBrk : Bool) (s : State) : State := wake (requestIrq setBrk s)

/-- `triggerNMIB()` (60_exceptions.md R166). -/
def inputNmi (s : State) : State := wake (requestNmi s)

/-- `startClock()` (60_exceptions.md R176). -/
def inputStart (s : State) : State := s.setClockMode .running

/-- `pauseClock()` (60_exceptions.md R177). -/
def inputPause (s : State) : State := s.setClockMode .paused

/-- One input made at a step boundary; a core that has faulted accepts none (60_exceptions.md R188). -/
def applyInput (s : State) (i : HostInput) : State :=
  if s.fault = none then
    match i with
    | .reset => inputReset s
    | .triggerIRQB setBrk => inputIrq setBrk s
    | .triggerNMIB => inputNmi s
    | .startClock => inputStart s
    | .pauseClock => inputPause s
  else s

/-- The inputs that land at this step boundary, in the order the host makes them (60_exceptions.md R179):
the first batch of the schedule, which is then used up. -/
def takeInputs (s : State) : State :=
  s.schedule.headD [] |>.foldl applyInput (s.setSchedule s.schedule.tail)

end Sys2Proof.Machine
end

