-- ==== Sys2Proof/Machine/Step.lean ====
section
/-!
DEFINITION. One step of the machine (40_execution_and_addressing.md R65): the host's inputs of this step
boundary, then, while the clock runs, the interrupt check and one whole instruction.
-/

namespace Sys2Proof.Machine

/-- The step of a running core that has no fault (40_execution_and_addressing.md R65): interrupt check,
fetch, decode, operand, execute, retire. An unbound opcode latches its fault in the state the fetch
stage left (R67, 60_exceptions.md R161; log entry 10). -/
def coreStep (s : State) : Host.Outcome State Fault Refusal :=
  let f := fetchInstr (interruptCheck s)
  match f.1 with
  | .error op => .next (raiseFault (.invalidOpcode op) f.2)
  | .ok i =>
    match exec i f.2 with
    | .next t => .next (retire t)
    | .fault r => .fault r
    | .refused r => .refused r

/-- One step. A faulted core takes none and stops with its fault (60_exceptions.md R188). Otherwise the
host's inputs land (R179); if the clock then runs, the core makes its step; if not, the boundary passes
and the core does nothing (40_execution_and_addressing.md R65; log entry 11). -/
def step (s : State) : Host.Outcome State Fault Refusal :=
  match s.fault with
  | some r => .fault r
  | none =>
    let s1 := takeInputs s
    if s1.clockMode = .running then coreStep s1 else .next s1

/-- The state in which the next step fetches its opcode: after the inputs and the interrupt check. -/
def State.atFetch (s : State) : State := interruptCheck (takeInputs s)

/-- A state whose next step is a step of the core: itself if it is one already, else with the fault
cleared, the clock running, and no input at the next boundary. -/
def State.ready (s : State) : State :=
  if s.fault = none ∧ (takeInputs s).clockMode = .running then s
  else ((s.setFault none).setClockMode .running).setSchedule ([] :: s.schedule.tail)

/-- RAM with a list of bytes written from an address upwards, without a port call. -/
def State.pokes (s : State) (a : Addr) : List Byte → State
  | [] => s
  | v :: vs => (s.setMem (s.mem.write a.toNat v)).pokes (a + 1) vs

/-- RAM holds these bytes from this address upwards and answers reads of them. -/
def State.holds (s : State) (a : Addr) : List Byte → Bool
  | [] => true
  | v :: vs => !isDevice s.config a && s.peek a == v && s.holds (a + 1) vs

/-- The bytes stored where the next step fetches, and nothing else changed, if the step then does fetch
them there. Where it would not (the bytes would overwrite a vector the step reads, or its pushes would
overwrite the bytes, or the host does not answer from RAM there), no request is pending, no input lands
and all of memory is RAM, and the bytes stand at `PC`. -/
def State.placeInstr (s : State) (bytes : List Byte) : State :=
  let a := s.atFetch.pc
  let t := s.pokes a bytes
  if t.atFetch.pc = a ∧ t.atFetch.holds a bytes then t
  else
    let u := ((s.setPending .none).setSchedule ([] :: s.schedule.tail)).setClockMode .running
    let v : State := { u with config := { u.config with devices := [] } }
    v.pokes v.pc bytes

/-- The state with the table word `w` of `nbits` bits placed so that the next step fetches and runs it
(log entry 9): from `State.reset` that is where the reset vector points. -/
def State.withFetchWord (s : State) (nbits w : Nat) : State :=
  s.ready.placeInstr (tableBytes nbits w)

end Sys2Proof.Machine
end

