-- ==== Sys2Proof/Safety.lean ====
section
/-!
DEFINITION. What claims about whole runs are stated in: the invariant of the state, and the safe states.
-/

namespace Sys2Proof.Machine

/-- The invariant of every state after the first reset: bit 5 of `P` is 1 (10_state.md R15) and the
host's RAM has its canonical form. -/
structure State.Inv (s : State) : Prop where
  constSet : getFlag s.p .K = true
  memWf : s.mem.wf = true

/-- No fault has been raised: the core can still take steps and inputs (60_exceptions.md R187, R188). -/
def State.safe (s : State) : Prop := s.fault = none

/-- `k` steps of the machine. -/
inductive Steps : Nat → State → State → Prop where
  | refl (s : State) : Steps 0 s s
  | tail {k : Nat} {s t u : State} : Steps k s t → step t = .next u → Steps (k + 1) s u

end Sys2Proof.Machine
end

