-- ==== Sys2Proof/Certificates/Slice0/Obligations.lean ====
section
/-!
DEFINITION. The statements for the provers, and before them the tables of the spec that several of them
share, each transcribed here from the rule it names and not from the model.
-/

namespace Sys2Proof.Spec

open Sys2Proof.Machine

/-- The columns of the first table of 30_encoding.md R57, left to right, without the column of the
accumulator: immediate, zp, zp,X, zp,Y, abs, abs,X, abs,Y, (zp,X), (zp),Y. -/
def memColumns (zp zpX zpY abs absX absY indX indY : Option Byte) : MemOperand → Option Byte
  | .zeropage _ => zp
  | .zeropageX _ => zpX
  | .zeropageY _ => zpY
  | .absolute _ => abs
  | .absoluteX _ => absX
  | .absoluteY _ => absY
  | .indexedIndirect _ => indX
  | .indirectIndexed _ => indY

/-- A row of a read-type mnemonic in 30_encoding.md R57. -/
def readRow (imm zp zpX zpY abs absX absY indX indY : Option Byte) : ReadOperand → Option Byte
  | .immediate _ => imm
  | .mem m => memColumns zp zpX zpY abs absX absY indX indY m

/-- A row of a read-modify-write mnemonic in 30_encoding.md R57: accumulator, zp, zp,X, abs, abs,X. -/
def rmwRow (acc zp zpX abs absX : Option Byte) : RmwOperand → Option Byte
  | .accumulator => acc
  | .mem m => memColumns zp zpX none abs absX none none none m

/-- The read-type rows of 30_encoding.md R57. -/
def readOpcode : ReadFamily → ReadOperand → Option Byte
  | .lda => readRow (some 0xA9) (some 0xA5) (some 0xB5) none (some 0xAD) (some 0xBD) (some 0xB9) (some 0xA1) (some 0xB1)
  | .ldx => readRow (some 0xA2) (some 0xA6) none (some 0xB6) (some 0xAE) none (some 0xBE) none none
  | .ldy => readRow (some 0xA0) (some 0xA4) (some 0xB4) none (some 0xAC) (some 0xBC) none none none
  | .ora => readRow (some 0x09) (some 0x05) (some 0x15) none (some 0x0D) (some 0x1D) (some 0x19) (some 0x01) (some 0x11)
  | .and => readRow (some 0x29) (some 0x25) (some 0x35) none (some 0x2D) (some 0x3D) (some 0x39) (some 0x21) (some 0x31)
  | .eor => readRow (some 0x49) (some 0x45) (some 0x55) none (some 0x4D) (some 0x5D) (some 0x59) (some 0x41) (some 0x51)
  | .adc => readRow (some 0x69) (some 0x65) (some 0x75) none (some 0x6D) (some 0x7D) (some 0x79) (some 0x61) (some 0x71)
  | .sbc => readRow (some 0xE9) (some 0xE5) (some 0xF5) none (some 0xED) (some 0xFD) (some 0xF9) (some 0xE1) (some 0xF1)
  | .cmp => readRow (some 0xC9) (some 0xC5) (some 0xD5) none (some 0xCD) (some 0xDD) (some 0xD9) (some 0xC1) (some 0xD1)
  | .cpx => readRow (some 0xE0) (some 0xE4) none none (some 0xEC) none none none none
  | .cpy => readRow (some 0xC0) (some 0xC4) none none (some 0xCC) none none none none
  | .bit => readRow none (some 0x24) none none (some 0x2C) none none none none

/-- The store-type rows of 30_encoding.md R57. -/
def storeOpcode : StoreFamily → MemOperand → Option Byte
  | .sta => memColumns (some 0x85) (some 0x95) none (some 0x8D) (some 0x9D) (some 0x99) (some 0x81) (some 0x91)
  | .stx => memColumns (some 0x86) none (some 0x96) (some 0x8E) none none none none
  | .sty => memColumns (some 0x84) (some 0x94) none (some 0x8C) none none none none

/-- The read-modify-write rows of 30_encoding.md R57. -/
def rmwOpcode : RmwFamily → RmwOperand → Option Byte
  | .asl => rmwRow (some 0x0A) (some 0x06) (some 0x16) (some 0x0E) (some 0x1E)
  | .lsr => rmwRow (some 0x4A) (some 0x46) (some 0x56) (some 0x4E) (some 0x5E)
  | .rol => rmwRow (some 0x2A) (some 0x26) (some 0x36) (some 0x2E) (some 0x3E)
  | .ror => rmwRow (some 0x6A) (some 0x66) (some 0x76) (some 0x6E) (some 0x7E)
  | .inc => rmwRow none (some 0xE6) (some 0xF6) (some 0xEE) (some 0xFE)
  | .dec => rmwRow none (some 0xC6) (some 0xD6) (some 0xCE) (some 0xDE)

/-- The branches of the second table of 30_encoding.md R57. -/
def branchOpcode : BranchFamily → Byte
  | .bpl => 0x10
  | .bmi => 0x30
  | .bvc => 0x50
  | .bvs => 0x70
  | .bcc => 0x90
  | .bcs => 0xB0
  | .bne => 0xD0
  | .beq => 0xF0

/-- The implied rows of the second table of 30_encoding.md R57. -/
def impliedOpcode : ImpliedOp → Byte
  | .rts => 0x60
  | .inx => 0xE8
  | .iny => 0xC8
  | .dex => 0xCA
  | .dey => 0x88
  | .brk => 0x00
  | .rti => 0x40
  | .wai => 0xCB
  | .tax => 0xAA
  | .txa => 0x8A
  | .tay => 0xA8
  | .tya => 0x98
  | .tsx => 0xBA
  | .txs => 0x9A
  | .clc => 0x18
  | .sec => 0x38
  | .cli => 0x58
  | .sei => 0x78
  | .clv => 0xB8
  | .cld => 0xD8
  | .sed => 0xF8
  | .pha => 0x48
  | .pla => 0x68
  | .php => 0x08
  | .plp => 0x28
  | .nop => 0xEA

/-- The opcode 30_encoding.md R57 gives a mnemonic in an addressing mode; `none` where it has none. -/
def opcode : Form → Option Byte
  | .read f o => readOpcode f o
  | .store f m => storeOpcode f m
  | .rmw f o => rmwOpcode f o
  | .branch f _ => some (branchOpcode f)
  | .jump _ => some 0x4C
  | .jumpIndirect _ => some 0x6C
  | .call _ => some 0x20
  | .implied f => some (impliedOpcode f)

/-- The opcode of the instruction is the one 30_encoding.md R57 gives its mnemonic and mode. -/
def HasItsOpcode (i : Instr) : Prop := opcode i.form = some i.opcode

/-- With `BIND_TIER_S` false the opcode of the instruction is unbound (30_encoding.md R55). -/
def UnboundWithoutTierS (i : Instr) : Prop :=
  ∀ cfg : Config, cfg.bindTierS = false → decodeOpcode cfg i.opcode = none

/-- The 104 unbound opcode bytes, as 30_encoding.md R58 lists them. -/
def unboundOpcodes : List Byte :=
  [0x02, 0x03, 0x04, 0x07, 0x0B, 0x0C, 0x0F, 0x12, 0x13, 0x14, 0x17, 0x1A, 0x1B, 0x1C, 0x1F, 0x22, 0x23, 0x27,
    0x2B, 0x2F, 0x32, 0x33, 0x34, 0x37, 0x3A, 0x3B, 0x3C, 0x3F] ++
  [0x42, 0x43, 0x44, 0x47, 0x4B, 0x4F, 0x52, 0x53, 0x54, 0x57, 0x5A, 0x5B, 0x5C, 0x5F, 0x62, 0x63, 0x64, 0x67,
    0x6B, 0x6F, 0x72, 0x73, 0x74, 0x77, 0x7A, 0x7B, 0x7C, 0x7F] ++
  [0x80, 0x82, 0x83, 0x87, 0x89, 0x8B, 0x8F, 0x92, 0x93, 0x97, 0x9B, 0x9C, 0x9E, 0x9F, 0xA3, 0xA7, 0xAB, 0xAF,
    0xB2, 0xB3, 0xB7, 0xBB, 0xBF, 0xC2, 0xC3, 0xC7, 0xCF] ++
  [0xD2, 0xD3, 0xD4, 0xD7, 0xDA, 0xDB, 0xDC, 0xDF, 0xE2, 0xE3, 0xE7, 0xEB, 0xEF, 0xF2, 0xF3, 0xF4, 0xF7, 0xFA,
    0xFB, 0xFC, 0xFF]

/-- The 12 opcode bytes of tier S, as 30_encoding.md R55 lists them. -/
def tierS : List Byte := [0x24, 0x2C, 0x46, 0x4A, 0x4E, 0x56, 0x5E, 0x88, 0xC8, 0xCA, 0xCB, 0xE8]

/-- Every flag but those listed is the same in the two status bytes. -/
def FlagsKept (p p' : Byte) (written : List Flag) : Prop :=
  ∀ f, f ∉ written → getFlag p' f = getFlag p f

/-- N is bit 7 of the result and Z says whether it is zero (10_state.md R26). -/
def NZ (p' : Byte) (r : Byte) : Prop :=
  getFlag p' .N = decide (128 ≤ r.toNat) ∧ getFlag p' .Z = decide (r.toNat = 0)

/-- Not in the range of a signed byte. -/
def overflows (n : Int) : Bool := decide (n < -128 ∨ 127 < n)

/-- The result and the carry of a read-modify-write instruction on a byte `v` with old carry `c`, as
numbers (43_shift_rotate_incdec.md R110 to R115). -/
def rmwResult (f : RmwFamily) (v : Nat) (c : Bool) : Nat × Bool :=
  match f with
  | .asl => (2 * v % 256, decide (128 ≤ v))
  | .lsr => (v / 2, decide (v % 2 = 1))
  | .rol => ((2 * v + c.toNat) % 256, decide (128 ≤ v))
  | .ror => (v / 2 + 128 * c.toNat, decide (v % 2 = 1))
  | .inc => ((v + 1) % 256, c)
  | .dec => ((v + 255) % 256, c)

/-- The condition of each branch (44_branch_jump_subroutine.md R121 to R128). -/
def taken (f : BranchFamily) (p : Byte) : Bool :=
  match f with
  | .bpl => !getFlag p .N
  | .bmi => getFlag p .N
  | .bvc => !getFlag p .V
  | .bvs => getFlag p .V
  | .bcc => !getFlag p .C
  | .bcs => getFlag p .C
  | .bne => !getFlag p .Z
  | .beq => getFlag p .Z

/-- The register a store-type instruction copies (41_load_store.md R93 to R95). -/
def stored (f : StoreFamily) (s : State) : Byte :=
  match f with
  | .sta => s.a
  | .stx => s.x
  | .sty => s.y

/-- The flag each flag instruction writes, and to what (45_transfer_flag_stack.md R141 to R147). -/
def flagWrite : ImpliedOp → Option (Flag × Bool)
  | .clc => some (.C, false)
  | .sec => some (.C, true)
  | .cli => some (.I, false)
  | .sei => some (.I, true)
  | .clv => some (.V, false)
  | .cld => some (.D, false)
  | .sed => some (.D, true)
  | _ => none

/-- The column "written by" of the table of 10_state.md R14, for instructions. -/
def writesFlag (fm : Form) (fl : Flag) : Bool :=
  match fm with
  | .read f _ =>
    match fl with
    | .N => true
    | .Z => true
    | .V => f = .adc || f = .sbc || f = .bit
    | .C => f = .adc || f = .sbc || f = .cmp || f = .cpx || f = .cpy
    | _ => false
  | .rmw f _ =>
    match fl with
    | .N => true
    | .Z => true
    | .C => f = .asl || f = .lsr || f = .rol || f = .ror
    | _ => false
  | .implied op =>
    op = .plp || op = .rti ||
      match fl with
      | .N => op ∈ [.inx, .iny, .dex, .dey, .tax, .txa, .tay, .tya, .tsx, .pla]
      | .Z => op ∈ [.inx, .iny, .dex, .dey, .tax, .txa, .tay, .tya, .tsx, .pla]
      | .V => op = .clv
      | .K => false
      | .B => op = .brk
      | .D => op = .sed || op = .cld
      | .I => op = .sei || op = .cli
      | .C => op = .clc || op = .sec
  | _ => false

/-- The addresses an instruction stores to (41_load_store.md R93 to R95; 43_shift_rotate_incdec.md R110 to
R115; 44_branch_jump_subroutine.md R131; 45_transfer_flag_stack.md R148, R150). -/
def storedAddrs (fm : Form) (s : State) : List Addr :=
  match fm with
  | .store _ m => [(effAddr m s).1]
  | .rmw _ o =>
    match o with
    | .accumulator => []
    | .mem m => [(effAddr m s).1]
  | .call _ => [stackAddr s.sp, stackAddr (s.sp - 1)]
  | .implied op =>
    match op with
    | .pha => [stackAddr s.sp]
    | .php => [stackAddr s.sp]
    | _ => []
  | _ => []

/-- The kind and address of a port call. -/
inductive Access where
  | R (a : Addr)
  | W (a : Addr)
deriving DecidableEq, Repr

/-- The kind and address of a logged call. -/
def access : PortCall → Access
  | .read a _ => .R a
  | .write a _ => .W a

/-- The reads of the pointer in the two indirect modes (40_execution_and_addressing.md R79, R80, R87). -/
def pointerReads (m : MemOperand) (s : State) : List Access :=
  match m with
  | .indexedIndirect zp => [.R (zpIndex s.config zp s.x), .R (zpIndex s.config zp s.x + 1)]
  | .indirectIndexed zp => [.R (zext16 zp), .R (zext16 zp + 1)]
  | _ => []

/-- The port calls of the execute stage in their order: the columns read-type, store-type and RMW-type of
40_execution_and_addressing.md R87, and the rules of the stack instructions, JSR, RTS and RTI. -/
def portCalls (fm : Form) (s : State) : List Access :=
  match fm with
  | .read _ (.immediate _) => []
  | .read _ (.mem m) => pointerReads m s ++ [.R (effAddr m s).1]
  | .store _ m =>
    pointerReads m s ++ (if s.config.storePreread then [.R (effAddr m s).1] else []) ++ [.W (effAddr m s).1]
  | .rmw _ .accumulator => []
  | .rmw _ (.mem m) => pointerReads m s ++ [.R (effAddr m s).1, .W (effAddr m s).1]
  | .branch _ _ => []
  | .jump _ => []
  | .jumpIndirect pointer => [.R pointer, .R (pointer + 1)]
  | .call _ => [.W (stackAddr s.sp), .W (stackAddr (s.sp - 1))]
  | .implied op =>
    match op with
    | .rts => [.R (stackAddr (s.sp + 1)), .R (stackAddr (s.sp + 2))]
    | .rti => [.R (stackAddr (s.sp + 1)), .R (stackAddr (s.sp + 2)), .R (stackAddr (s.sp + 3))]
    | .pha => [.W (stackAddr s.sp)]
    | .php => [.W (stackAddr s.sp)]
    | .pla => [.R (stackAddr (s.sp + 1))]
    | .plp => [.R (stackAddr (s.sp + 1))]
    | _ => []

/-- The bytes that this many reads answer, one port call each, from an address upwards modulo 65536, and the
state after them. The host may answer any of them from anywhere. -/
def portReads : Nat → Addr → State → List Byte × State
  | 0, _, s => ([], s)
  | n + 1, a, s =>
    let v := memRead a s
    let vs := portReads n (a + 1) v.2
    (v.1 :: vs.1, vs.2)

/-- Every slot of the stack page is plain RAM. -/
def StackIsRam (s : State) : Prop := ∀ v : Byte, isDevice s.config (stackAddr v) = false

end Sys2Proof.Spec

section

open Sys2Proof Sys2Proof.Machine Sys2Proof.Spec

/-! ### Encoding -/

/-- 30_encoding.md R50, R52, R53, R57: the bytes of a bound instruction, with anything after them, decode
to that instruction with the rest left over, under every configuration and for every operand. -/
def Obligations.DecodeOfEncodeIsTheInstruction : Prop :=
  ∀ (cfg : Config) (i : Instr) (rest : List Byte), i.wf cfg = true →
    decode cfg (encode i ++ rest) = .ok (i, rest)

/-- 30_encoding.md R50, R53, R58: whatever decodes is the code of a bound instruction: no byte string but
`encode i` decodes to `i`. -/
def Obligations.EncodeOfDecodeIsTheBytes : Prop :=
  ∀ (cfg : Config) (bytes : List Byte) (i : Instr) (rest : List Byte),
    decode cfg bytes = .ok (i, rest) → i.wf cfg = true ∧ encode i ++ rest = bytes

/-- 30_encoding.md R57, R55: a mnemonic has a mode exactly where the table by mnemonic gives an opcode, and
that opcode is the instruction's; the tier-S instructions are those of the 12 listed bytes. -/
def Obligations.OpcodeMapIsTheTableByMnemonic : Prop :=
  (∀ (fm : Form) (op : Byte), opcode fm = some op ↔ ∃ i : Instr, i.form = fm ∧ i.opcode = op) ∧
    ∀ i : Instr, i.form.tierS = true ↔ i.opcode ∈ tierS

/-- 30_encoding.md R58, R55: the unbound bytes are the 104 listed ones, and the 12 of tier S as well when
`BIND_TIER_S` is false. -/
def Obligations.UnboundBytesAreTheListedOnes : Prop :=
  unboundOpcodes.length = 104 ∧
    ∀ (cfg : Config) (op : Byte),
      (decodeOpcode cfg op).isNone = true ↔
        op ∈ unboundOpcodes ∨ (cfg.bindTierS = false ∧ op ∈ tierS)

/-- 30_encoding.md R59: the length of an instruction's code is one more than the operand byte count that
the decoder answers for its first byte; it is 1, 2 or 3 (R50). -/
def Obligations.FirstByteTellsTheLength : Prop :=
  ∀ (cfg : Config) (i : Instr), i.wf cfg = true →
    ∃ sh, decodeOpcode cfg i.opcode = some sh ∧ (encode i).length = 1 + sh.operandByteCount ∧
      (encode i).head? = some i.opcode ∧ (encode i).length ∈ [1, 2, 3]

/-- 30_encoding.md R52, R57, R58, R60: code written out from the spec's tables, for each instruction file, and
an unbound byte. That a list which ends before its operand answers `missingOperand` is the model's own
choice (log entry 18): an error of the list alone, which the core never meets. -/
def Obligations.SampleCodeDecodes : Prop :=
  decode Config.default [0xAD, 0x34, 0x12] = .ok (.ldaAbs 0x1234, []) ∧
    decode Config.default [0x96, 0xFF] = .ok (.stxZpY 0xFF, []) ∧
    decode Config.default [0x69, 0x50, 0xEA] = .ok (.adcImm 0x50, [0xEA]) ∧
    decode Config.default [0x7E, 0xFF, 0x2F] = .ok (.rorAbsX 0x2FFF, []) ∧
    decode Config.default [0xD0, 0xFE] = .ok (.bne 0xFE, []) ∧
    decode Config.default [0x6C, 0xFF, 0x12] = .ok (.jmpInd 0x12FF, []) ∧
    decode Config.default [0x9A] = .ok (.txs, []) ∧
    decode Config.default [0x40] = .ok (.rti, []) ∧
    decode Config.default [0x1A] = .error (.unbound 0x1A) ∧
    decode Config.default [0x20, 0x00] = .error (.missingOperand 0x20)

/-! ### Flags -/

/-- 10_state.md R13: `P` as a byte is the weighted sum of its flags; writing a flag changes that flag to
the value written and leaves the other seven. -/
def Obligations.StatusByteIsItsEightFlags : Prop :=
  (∀ p : Byte, p.toNat = flagNat p .N * 128 + flagNat p .V * 64 + flagNat p .K * 32 + flagNat p .B * 16 +
      flagNat p .D * 8 + flagNat p .I * 4 + flagNat p .Z * 2 + flagNat p .C) ∧
    ∀ (p : Byte) (f : Flag) (b : Bool),
      getFlag (setFlag p f b) f = b ∧ FlagsKept p (setFlag p f b) [f]

/-- 10_state.md R26, R27: `Norm` answers the raw value modulo 256, sets N and Z from it, C from bit 8 of the
raw value when asked, and writes nothing else. -/
def Obligations.NormSetsNZAndTheCarryAsked : Prop :=
  ∀ (raw : Nat) (checkCarry : Bool) (s : State), raw < 512 →
    ∃ p, norm raw checkCarry s = (BitVec.ofNat 8 (raw % 256), s.setP p) ∧
      getFlag p .N = decide (128 ≤ raw % 256) ∧ getFlag p .Z = decide (raw % 256 = 0) ∧
      getFlag p .C = (if checkCarry then decide (256 ≤ raw) else getFlag s.p .C) ∧
      FlagsKept s.p p [.N, .Z, .C]

/-! ### Memory port and stack -/

/-- 20_memory.md R31, R32, R33: a write is one port call and a read is one port call; plain RAM answers the
byte last written to the address, and a write changes no other byte. -/
def Obligations.RamAnswersTheByteLastWritten : Prop :=
  ∀ (s : State) (a b : Addr) (v : Byte), s.mem.wf = true → isDevice s.config a = false →
    (memRead a (memWrite a v s)).1 = v ∧
      (memWrite a v s).portLog = .write a v :: s.portLog ∧
      (memRead a (memWrite a v s)).2.portLog = .read a v :: .write a v :: s.portLog ∧
      (b ≠ a → (memWrite a v s).peek b = s.peek b) ∧
      (isDevice s.config b = false → (memRead b s).1 = s.peek b ∧
        (memRead b s).2 = s.logCall (.read b (s.peek b)))

/-- 20_memory.md R34, R35: a 16-bit read is the byte at `addr`, then the byte at `addr + 1` modulo 65536,
low byte first; a 16-bit write writes the low byte at `addr`, then the high byte at `addr + 1`. -/
def Obligations.SixteenBitAccessesAreLowByteFirst : Prop :=
  (∀ (s : State) (a : Addr),
    let lo := memRead a s
    let hi := memRead (BitVec.ofNat 16 ((a.toNat + 1) % 65536)) lo.2
    (memRead16 a s).1.toNat = hi.1.toNat * 256 + lo.1.toNat ∧ (memRead16 a s).2 = hi.2) ∧
  ∀ (s : State) (a v : Addr),
    let lo : Byte := BitVec.ofNat 8 (v.toNat % 256)
    let hi : Byte := BitVec.ofNat 8 (v.toNat / 256)
    memWrite16 a v s = memWrite (BitVec.ofNat 16 ((a.toNat + 1) % 65536)) hi (memWrite a lo s)

/-- 20_memory.md R40, R41: a push writes the byte at `0x0100 + SP` and then lowers `SP`; a pull raises `SP`
and then reads at `0x0100 + SP`; `SP` wraps between 0 and 255. -/
def Obligations.PushAndPullMoveOneByteOnTheRing : Prop :=
  (∀ (s : State) (v : Byte),
    push8 v s = (memWrite (BitVec.ofNat 16 (0x0100 + s.sp.toNat)) v s).setSp
      (BitVec.ofNat 8 ((s.sp.toNat + 255) % 256))) ∧
  ∀ s : State,
    let sp : Byte := BitVec.ofNat 8 ((s.sp.toNat + 1) % 256)
    pull8 s = ((memRead (BitVec.ofNat 16 (0x0100 + sp.toNat)) s).1,
      (memRead (BitVec.ofNat 16 (0x0100 + sp.toNat)) s).2.setSp sp)

/-- 20_memory.md R42, R43: a 16-bit push is the high byte and then the low byte; a 16-bit pull is the low
byte and then the high byte; with the stack page in RAM a pull after a push gives the value back and `SP`
as it was, for every starting `SP`. -/
def Obligations.PushedWordIsPulledBack : Prop :=
  ∀ (s : State) (v : Addr),
    push16 v s = push8 (BitVec.ofNat 8 (v.toNat % 256)) (push8 (BitVec.ofNat 8 (v.toNat / 256)) s) ∧
      (pull16 s).1.toNat = (pull8 (pull8 s).2).1.toNat * 256 + (pull8 s).1.toNat ∧
      (pull16 s).2 = (pull8 (pull8 s).2).2 ∧
      (s.mem.wf = true → StackIsRam s →
        (pull16 (push16 v s)).1 = v ∧ (pull16 (push16 v s)).2.sp = s.sp)

/-! ### Addressing modes -/

/-- 40_execution_and_addressing.md R73 to R78: the effective addresses of the modes that read no pointer,
as numbers, with no port call and no register changed. -/
def Obligations.DirectModesAddressAsTheTableSays : Prop :=
  ∀ (s : State) (zp : Byte) (addr : Addr),
    (effAddr (.zeropage zp) s).1.toNat = zp.toNat ∧
    (effAddr (.zeropageX zp) s).1.toNat =
      (if s.config.zpIndexWrap then (zp.toNat + s.x.toNat) % 256 else zp.toNat + s.x.toNat) ∧
    (effAddr (.zeropageY zp) s).1.toNat =
      (if s.config.zpIndexWrap then (zp.toNat + s.y.toNat) % 256 else zp.toNat + s.y.toNat) ∧
    (effAddr (.absolute addr) s).1.toNat = addr.toNat ∧
    (effAddr (.absoluteX addr) s).1.toNat = (addr.toNat + s.x.toNat) % 65536 ∧
    (effAddr (.absoluteY addr) s).1.toNat = (addr.toNat + s.y.toNat) % 65536 ∧
    ∀ m ∈ [MemOperand.zeropage zp, .zeropageX zp, .zeropageY zp, .absolute addr, .absoluteX addr,
      .absoluteY addr], (effAddr m s).2 = s

/-- 40_execution_and_addressing.md R79, R80: the effective addresses of the two indirect modes: the pointer
is read low byte first at `p` and `p + 1` modulo 65536, with no wrap in the zero page; `Y` is added to the
16-bit pointer modulo 65536. -/
def Obligations.IndirectModesReadAPointer : Prop :=
  ∀ (s : State) (zp : Byte),
    (let p := (effAddr (.zeropageX zp) s).1
     let lo := memRead p s
     let hi := memRead (BitVec.ofNat 16 ((p.toNat + 1) % 65536)) lo.2
     (effAddr (.indexedIndirect zp) s).1.toNat = hi.1.toNat * 256 + lo.1.toNat ∧
       (effAddr (.indexedIndirect zp) s).2 = hi.2) ∧
    (let lo := memRead (BitVec.ofNat 16 zp.toNat) s
     let hi := memRead (BitVec.ofNat 16 (zp.toNat + 1)) lo.2
     (effAddr (.indirectIndexed zp) s).1.toNat =
         (hi.1.toNat * 256 + lo.1.toNat + s.y.toNat) % 65536 ∧
       (effAddr (.indirectIndexed zp) s).2 = hi.2)

/-- 40_execution_and_addressing.md R81: the branch target is `PC` plus the operand read as a signed byte
(`v` below 128, `v - 256` from 128 on), modulo 65536. -/
def Obligations.RelativeTargetIsSignedAndWraps : Prop :=
  ∀ (pc : Addr) (v : Byte),
    ((relTarget pc v).toNat : Int) =
      ((pc.toNat : Int) + (if v.toNat < 128 then (v.toNat : Int) else (v.toNat : Int) - 256)) % 65536

/-- 40_execution_and_addressing.md R72, R83: fetching an immediate operand answers it and makes no port call;
fetching a memory operand makes the port calls of the effective address and then one read there; no
register is changed. -/
def Obligations.OperandIsFetchedOnce : Prop :=
  (∀ (v : Byte) (s : State), fetch (.immediate v) s = (v, s)) ∧
  ∀ (m : MemOperand) (s : State),
    (fetch (.mem m) s).1 = (memRead (effAddr m s).1 (effAddr m s).2).1 ∧
      (fetch (.mem m) s).2.portLog =
        .read (effAddr m s).1 (fetch (.mem m) s).1 :: (effAddr m s).2.portLog ∧
      (fetch (.mem m) s).2 = { s with
        portLog := (fetch (.mem m) s).2.portLog, hostReads := (fetch (.mem m) s).2.hostReads }

/-! ### The instructions -/

/-- 41_load_store.md R90, R91, R92: LDA, LDX and LDY in every mode complete; the register holds the byte
fetched, N and Z are set from it, and nothing else changes but by the fetch. -/
def Obligations.LoadsCopyTheFetchedByte : Prop :=
  ∀ (i : Instr) (o : ReadOperand) (s : State),
    let v := (fetch o s).1
    (i.form = .read .lda o → HasItsOpcode i ∧ ∃ p,
      exec i s = .next (((fetch o s).2.setP p).setA v) ∧ NZ p v ∧ FlagsKept s.p p [.N, .Z]) ∧
    (i.form = .read .ldx o → HasItsOpcode i ∧ ∃ p,
      exec i s = .next (((fetch o s).2.setP p).setX v) ∧ NZ p v ∧ FlagsKept s.p p [.N, .Z]) ∧
    (i.form = .read .ldy o → HasItsOpcode i ∧ ∃ p,
      exec i s = .next (((fetch o s).2.setP p).setY v) ∧ NZ p v ∧ FlagsKept s.p p [.N, .Z])

/-- 42_logic_arithmetic_compare.md R100, R101, R102: ORA, AND and EOR in every mode complete; `A` holds the
bitwise result, N and Z are set from it, and nothing else changes but by the fetch. -/
def Obligations.LogicCombinesAWithTheOperand : Prop :=
  ∀ (i : Instr) (o : ReadOperand) (s : State),
    let v := (fetch o s).1
    (i.form = .read .ora o → HasItsOpcode i ∧ ∃ p,
      exec i s = .next (((fetch o s).2.setP p).setA (s.a ||| v)) ∧ NZ p (s.a ||| v) ∧
        FlagsKept s.p p [.N, .Z]) ∧
    (i.form = .read .and o → HasItsOpcode i ∧ ∃ p,
      exec i s = .next (((fetch o s).2.setP p).setA (s.a &&& v)) ∧ NZ p (s.a &&& v) ∧
        FlagsKept s.p p [.N, .Z]) ∧
    (i.form = .read .eor o → HasItsOpcode i ∧ ∃ p,
      exec i s = .next (((fetch o s).2.setP p).setA (s.a ^^^ v)) ∧ NZ p (s.a ^^^ v) ∧
        FlagsKept s.p p [.N, .Z])

/-- 42_logic_arithmetic_compare.md R103: ADC in every mode completes; `A` holds the sum modulo 256, C says
whether the unsigned sum passed 255, V is the rule's formula and says whether the signed sum left the
signed byte range, N and Z come from the result, and nothing else changes but by the fetch. `P.D` plays
no part. -/
def Obligations.AdcAddsWithCarry : Prop :=
  ∀ (i : Instr) (o : ReadOperand) (s : State), i.form = .read .adc o →
    let v := (fetch o s).1
    let c := flagNat s.p .C
    let raw := s.a.toNat + v.toNat + c
    let r : Byte := BitVec.ofNat 8 (raw % 256)
    HasItsOpcode i ∧ ∃ p, exec i s = .next (((fetch o s).2.setP p).setA r) ∧
      getFlag p .C = decide (256 ≤ raw) ∧
      getFlag p .V = decide ((v ^^^ r) &&& (s.a ^^^ r) &&& 0x80 ≠ 0) ∧
      getFlag p .V = overflows (s.a.toInt + v.toInt + c) ∧
      NZ p r ∧ FlagsKept s.p p [.C, .V, .N, .Z]

/-- 42_logic_arithmetic_compare.md R104: SBC in every mode completes; `A` holds `A - v - (1 - C)` modulo 256,
C is 1 iff that did not borrow, V is the rule's formula on the complemented operand and says whether the
signed difference left the signed byte range, N and Z come from the result, and nothing else changes but
by the fetch. `P.D` plays no part. -/
def Obligations.SbcSubtractsWithBorrow : Prop :=
  ∀ (i : Instr) (o : ReadOperand) (s : State), i.form = .read .sbc o →
    let v := (fetch o s).1
    let w := v ^^^ 0xFF
    let c := flagNat s.p .C
    let diff : Int := (s.a.toNat : Int) - v.toNat - (1 - c)
    let r : Byte := BitVec.ofInt 8 diff
    HasItsOpcode i ∧ ∃ p, exec i s = .next (((fetch o s).2.setP p).setA r) ∧
      getFlag p .C = decide (0 ≤ diff) ∧
      getFlag p .V = decide ((w ^^^ r) &&& (s.a ^^^ r) &&& 0x80 ≠ 0) ∧
      getFlag p .V = overflows (s.a.toInt - v.toInt - (1 - c)) ∧
      NZ p r ∧ FlagsKept s.p p [.C, .V, .N, .Z]

/-- 42_logic_arithmetic_compare.md R105, R106, R107: CMP, CPX and CPY in every mode complete; C says that
the register is not below the operand, Z that they are equal, N is bit 7 of the wrapped difference; no
register is written and the old carry plays no part. -/
def Obligations.ComparesSetNZCFromTheDifference : Prop :=
  ∀ (i : Instr) (o : ReadOperand) (s : State),
    let v := (fetch o s).1
    let cmp : Byte → Prop := fun reg => HasItsOpcode i ∧ ∃ p, exec i s = .next ((fetch o s).2.setP p) ∧
      getFlag p .C = decide (v.toNat ≤ reg.toNat) ∧ getFlag p .Z = decide (reg = v) ∧
      getFlag p .N = decide (128 ≤ (reg - v).toNat) ∧ FlagsKept s.p p [.C, .Z, .N]
    (i.form = .read .cmp o → cmp s.a) ∧ (i.form = .read .cpx o → cmp s.x) ∧
      (i.form = .read .cpy o → cmp s.y)

/-- 42_logic_arithmetic_compare.md R108: BIT in both modes completes; Z says that `A & v` is zero, N and V
are bits 7 and 6 of the operand, and nothing else changes but by the fetch; with `BIND_TIER_S` false its
opcodes are unbound. -/
def Obligations.BitCopiesBitsSevenAndSix : Prop :=
  ∀ (i : Instr) (o : ReadOperand) (s : State), i.form = .read .bit o →
    let v := (fetch o s).1
    HasItsOpcode i ∧ UnboundWithoutTierS i ∧ ∃ p, exec i s = .next ((fetch o s).2.setP p) ∧
      getFlag p .Z = decide (s.a &&& v = 0) ∧ getFlag p .N = decide (128 ≤ v.toNat) ∧
      getFlag p .V = decide (64 ≤ v.toNat % 128) ∧ FlagsKept s.p p [.Z, .N, .V]

/-- 41_load_store.md R93, R94, R95, 40_execution_and_addressing.md R84: STA, STX and STY in every mode
complete; the one write puts the register at the effective address, after a read there only with
`STORE_PREREAD`; every other byte of RAM, every register and every flag is unchanged. That RAM keeps its
byte at an effective address which the host answers otherwise is the model's choice (log entry 5). -/
def Obligations.StoresWriteTheRegisterOnce : Prop :=
  ∀ (i : Instr) (f : StoreFamily) (m : MemOperand) (s : State), s.mem.wf = true → i.form = .store f m →
    let ea := (effAddr m s).1
    let s1 := (effAddr m s).2
    HasItsOpcode i ∧ ∃ t, exec i s = .next t ∧
      t.peek ea = (if isDevice s.config ea then s.peek ea else stored f s) ∧
      (∀ b, b ≠ ea → t.peek b = s.peek b) ∧
      t.portLog = .write ea (stored f s) ::
        (if s.config.storePreread then .read ea (memRead ea s1).1 :: s1.portLog else s1.portLog) ∧
      t = { s with mem := t.mem, portLog := t.portLog, hostReads := t.hostReads }

/-- 43_shift_rotate_incdec.md R110 to R115, 40_execution_and_addressing.md R85: ASL, LSR, ROL, ROR, INC and
DEC in every mode complete. In the accumulator mode `A` holds the result; in the memory modes there is one
read and then one write of the result at the effective address and no other byte of RAM changes. N and Z
come from the result, C is the bit shifted out (unchanged by INC and DEC), and no other flag and no other
register changes. With `BIND_TIER_S` false the opcodes of LSR are unbound. That RAM keeps its byte at an
effective address which the host answers otherwise is the model's choice (log entry 5). -/
def Obligations.ReadModifyWriteStoresTheResult : Prop :=
  ∀ (i : Instr) (f : RmwFamily) (s : State),
    (f = .lsr → (∃ o, i.form = .rmw f o) → UnboundWithoutTierS i) ∧
    (i.form = .rmw f .accumulator →
      let res := rmwResult f s.a.toNat (getFlag s.p .C)
      let r : Byte := BitVec.ofNat 8 res.1
      HasItsOpcode i ∧ ∃ p, exec i s = .next ((s.setP p).setA r) ∧
        NZ p r ∧ getFlag p .C = res.2 ∧ FlagsKept s.p p [.N, .Z, .C]) ∧
    ∀ m : MemOperand, s.mem.wf = true → i.form = .rmw f (.mem m) →
      let ea := (effAddr m s).1
      let v := (fetchMem m s).1
      let res := rmwResult f v.toNat (getFlag s.p .C)
      let r : Byte := BitVec.ofNat 8 res.1
      HasItsOpcode i ∧ ∃ t, exec i s = .next t ∧
        t.peek ea = (if isDevice s.config ea then s.peek ea else r) ∧
        (∀ b, b ≠ ea → t.peek b = s.peek b) ∧
        t.portLog = .write ea r :: .read ea v :: (effAddr m s).2.portLog ∧
        NZ t.p r ∧ getFlag t.p .C = res.2 ∧ FlagsKept s.p t.p [.N, .Z, .C] ∧
        t = { s with p := t.p, mem := t.mem, portLog := t.portLog, hostReads := t.hostReads }

/-- 43_shift_rotate_incdec.md R116 to R119: INX, INY, DEX and DEY complete; the register moves by one modulo
256, N and Z come from it, nothing else changes; with `BIND_TIER_S` false their opcodes are unbound. -/
def Obligations.RegisterIncrementsAndDecrementsWrap : Prop :=
  ∀ s : State,
    let up : Byte → Byte := fun v => BitVec.ofNat 8 ((v.toNat + 1) % 256)
    let down : Byte → Byte := fun v => BitVec.ofNat 8 ((v.toNat + 255) % 256)
    (∀ i ∈ [Instr.inx, .iny, .dex, .dey], HasItsOpcode i ∧ UnboundWithoutTierS i) ∧
    (∃ p, exec .inx s = .next ((s.setP p).setX (up s.x)) ∧ NZ p (up s.x) ∧ FlagsKept s.p p [.N, .Z]) ∧
    (∃ p, exec .iny s = .next ((s.setP p).setY (up s.y)) ∧ NZ p (up s.y) ∧ FlagsKept s.p p [.N, .Z]) ∧
    (∃ p, exec .dex s = .next ((s.setP p).setX (down s.x)) ∧ NZ p (down s.x) ∧ FlagsKept s.p p [.N, .Z]) ∧
    ∃ p, exec .dey s = .next ((s.setP p).setY (down s.y)) ∧ NZ p (down s.y) ∧ FlagsKept s.p p [.N, .Z]

/-- 44_branch_jump_subroutine.md R120 to R128: each branch completes; if its flag has the value it tests,
`PC` (already past the operand) moves by the signed displacement modulo 65536, else it stays; nothing else
changes. -/
def Obligations.BranchesMovePcOnTheirFlag : Prop :=
  ∀ (i : Instr) (f : BranchFamily) (disp : Byte) (s : State), i.form = .branch f disp →
    HasItsOpcode i ∧ exec i s = .next (s.setPc
      (if taken f s.p then
        BitVec.ofInt 16 (s.pc.toNat + (if disp.toNat < 128 then (disp.toNat : Int) else (disp.toNat : Int) - 256))
      else s.pc))

/-- 44_branch_jump_subroutine.md R129, R130, 40_execution_and_addressing.md R82: both JMPs complete. The
absolute one loads `PC` with its operand and makes no port call; the indirect one loads `PC` with the word
at the pointer, low byte first, the high byte read at `pointer + 1` modulo 65536. Nothing else changes. -/
def Obligations.JumpsLoadPc : Prop :=
  ∀ (s : State) (addr : Addr),
    HasItsOpcode (.jmpAbs addr) ∧ HasItsOpcode (.jmpInd addr) ∧
    exec (.jmpAbs addr) s = .next (s.setPc addr) ∧
    (let lo := memRead addr s
     let hi := memRead (BitVec.ofNat 16 ((addr.toNat + 1) % 65536)) lo.2
     exec (.jmpInd addr) s = .next (hi.2.setPc (BitVec.ofNat 16 (hi.1.toNat * 256 + lo.1.toNat))))

/-- 44_branch_jump_subroutine.md R131: JSR completes; it pushes `PC - 1` modulo 65536, high byte first, and
loads `PC` with its operand; only the two stack bytes of RAM, `SP` and `PC` change. -/
def Obligations.JsrPushesPcMinusOne : Prop :=
  ∀ (s : State) (target : Addr), s.mem.wf = true →
    let ret := (s.pc.toNat + 65535) % 65536
    let hi : Byte := BitVec.ofNat 8 (ret / 256)
    let lo : Byte := BitVec.ofNat 8 (ret % 256)
    HasItsOpcode (.jsr target) ∧ ∃ t, exec (.jsr target) s = .next t ∧ t.pc = target ∧ t.sp = s.sp - 2 ∧
      t.portLog = .write (stackAddr (s.sp - 1)) lo :: .write (stackAddr s.sp) hi :: s.portLog ∧
      (isDevice s.config (stackAddr s.sp) = false → t.peek (stackAddr s.sp) = hi) ∧
      (isDevice s.config (stackAddr (s.sp - 1)) = false → t.peek (stackAddr (s.sp - 1)) = lo) ∧
      (∀ b, b ≠ stackAddr s.sp → b ≠ stackAddr (s.sp - 1) → t.peek b = s.peek b) ∧
      t = { s with pc := t.pc, sp := t.sp, mem := t.mem, portLog := t.portLog }

/-- 44_branch_jump_subroutine.md R132: RTS completes; it pulls the low byte and then the high byte and loads
`PC` with one more than the word, modulo 65536; RAM, the flags and the registers but `SP` are unchanged. -/
def Obligations.RtsReturnsPastThePulledAddress : Prop :=
  ∀ s : State,
    let lo := memRead (stackAddr (s.sp + 1)) s
    let hi := memRead (stackAddr (s.sp + 2)) lo.2
    HasItsOpcode .rts ∧ exec .rts s = .next ((hi.2.setSp (s.sp + 2)).setPc
      (BitVec.ofNat 16 ((hi.1.toNat * 256 + lo.1.toNat + 1) % 65536)))

/-- 44_branch_jump_subroutine.md R131, R132: JSR and then RTS, with the stack page in RAM, restore `SP` and
continue at the byte after the JSR, for every starting `SP`; of RAM only the two stack bytes differ. -/
def Obligations.RtsAfterJsrReturns : Prop :=
  ∀ (s : State) (target : Addr), s.mem.wf = true → StackIsRam s →
    ∃ t u, exec (.jsr target) s = .next t ∧ exec .rts t = .next u ∧ u.pc = s.pc ∧ u.sp = s.sp ∧
      (∀ b, b ≠ stackAddr s.sp → b ≠ stackAddr (s.sp - 1) → u.peek b = s.peek b) ∧
      u = { s with mem := u.mem, portLog := u.portLog }

/-- 45_transfer_flag_stack.md R135 to R140: the six transfers complete; the destination holds the source, N
and Z come from it except in TXS, which writes no flag; nothing else changes. That TXS writes no flag is the
spec's own decision (R140, 92_eei_decisions.md D9). -/
def Obligations.TransfersCopyAndSetNZ : Prop :=
  ∀ s : State,
    (∀ i ∈ [Instr.tax, .txa, .tay, .tya, .tsx, .txs], HasItsOpcode i) ∧
    (∃ p, exec .tax s = .next ((s.setP p).setX s.a) ∧ NZ p s.a ∧ FlagsKept s.p p [.N, .Z]) ∧
    (∃ p, exec .txa s = .next ((s.setP p).setA s.x) ∧ NZ p s.x ∧ FlagsKept s.p p [.N, .Z]) ∧
    (∃ p, exec .tay s = .next ((s.setP p).setY s.a) ∧ NZ p s.a ∧ FlagsKept s.p p [.N, .Z]) ∧
    (∃ p, exec .tya s = .next ((s.setP p).setA s.y) ∧ NZ p s.y ∧ FlagsKept s.p p [.N, .Z]) ∧
    (∃ p, exec .tsx s = .next ((s.setP p).setX s.sp) ∧ NZ p s.sp ∧ FlagsKept s.p p [.N, .Z]) ∧
    exec .txs s = .next (s.setSp s.x)

/-- 45_transfer_flag_stack.md R141 to R147: CLC, SEC, CLI, SEI, CLV, CLD and SED complete; each writes its
one flag and changes nothing else. -/
def Obligations.FlagInstructionsWriteOneBit : Prop :=
  ∀ (i : Instr) (op : ImpliedOp) (f : Flag) (b : Bool) (s : State),
    i.form = .implied op → flagWrite op = some (f, b) →
      HasItsOpcode i ∧ ∃ p, exec i s = .next (s.setP p) ∧ getFlag p f = b ∧ FlagsKept s.p p [f]

/-- 45_transfer_flag_stack.md R148, R150: PHA and PHP complete; they write `A`, or `P` with all eight bits
as held, at `0x0100 + SP` and lower `SP` modulo 256; no flag, no other register and no other byte of RAM
changes. That RAM keeps its byte at a slot which the host answers otherwise is the model's choice (log
entry 5). -/
def Obligations.PushInstructionsStoreAOrP : Prop :=
  ∀ s : State, s.mem.wf = true →
    let slot := stackAddr s.sp
    let pushed : Byte → State → Prop := fun v t =>
      t.sp = BitVec.ofNat 8 ((s.sp.toNat + 255) % 256) ∧ t.portLog = .write slot v :: s.portLog ∧
        t.peek slot = (if isDevice s.config slot then s.peek slot else v) ∧
        (∀ b, b ≠ slot → t.peek b = s.peek b) ∧
        t = { s with sp := t.sp, mem := t.mem, portLog := t.portLog }
    HasItsOpcode .pha ∧ HasItsOpcode .php ∧
      (∃ t, exec .pha s = .next t ∧ pushed s.a t) ∧ ∃ t, exec .php s = .next t ∧ pushed s.p t

/-- 45_transfer_flag_stack.md R149, R151: PLA and PLP complete; they raise `SP` modulo 256 and read there.
PLA loads `A` and sets N and Z from the byte; PLP loads all of `P` with bit 5 forced to 1. Nothing else
changes but by the read. -/
def Obligations.PullInstructionsLoadAOrP : Prop :=
  ∀ s : State,
    let sp : Byte := BitVec.ofNat 8 ((s.sp.toNat + 1) % 256)
    let v := memRead (stackAddr sp) s
    HasItsOpcode .pla ∧ HasItsOpcode .plp ∧
      (∃ p, exec .pla s = .next (((v.2.setSp sp).setP p).setA v.1) ∧ NZ p v.1 ∧
        FlagsKept s.p p [.N, .Z]) ∧
      ∃ p, exec .plp s = .next ((v.2.setSp sp).setP p) ∧ getFlag p .K = true ∧
        FlagsKept v.1 p [.K]

/-- 45_transfer_flag_stack.md R152, 46_system.md R157: NOP completes and changes nothing; WAI completes,
stops the clock in `waitForInterrupt` whatever is pending, and changes nothing else; with `BIND_TIER_S`
false the opcode of WAI is unbound. -/
def Obligations.NopDoesNothingAndWaiSleeps : Prop :=
  ∀ s : State,
    HasItsOpcode .nop ∧ HasItsOpcode .wai ∧ UnboundWithoutTierS .wai ∧
      exec .nop s = .next s ∧ exec .wai s = .next (s.setClockMode .waitForInterrupt)

/-- 46_system.md R155: BRK completes: it sets B and files an `irq` request over whatever was pending, as
`triggerIRQB(true)` does; nothing is pushed, `PC`, I and the clock stay. If I is clear, the interrupt check
that follows delivers the request: the return address pushed is the `PC` the BRK left. -/
def Obligations.BrkFilesAnIrqRequest : Prop :=
  ∀ s : State, HasItsOpcode .brk ∧
    ∃ p, exec .brk s = .next ((s.setP p).setPending .irq) ∧ getFlag p .B = true ∧
      FlagsKept s.p p [.B] ∧
      (s.fault = none → s.clockMode = .running →
        exec .brk s = .next (applyInput s (.triggerIRQB true))) ∧
      (getFlag s.p .I = true →
        interruptCheck ((s.setP p).setPending .irq) = (s.setP p).setPending .irq) ∧
      (getFlag s.p .I = false →
        interruptCheck ((s.setP p).setPending .irq) = serviceIrq ((s.setP p).setPending .irq))

/-- 46_system.md R156: RTI completes: it pulls `P` (bit 5 forced to 1), then the low and the high byte of
`PC`, with no `+ 1`; RAM, the latch, the clock and `A`, `X`, `Y` are unchanged. -/
def Obligations.RtiRestoresPThenPc : Prop :=
  ∀ s : State,
    let st := memRead (stackAddr (s.sp + 1)) s
    let lo := memRead (stackAddr (s.sp + 2)) st.2
    let hi := memRead (stackAddr (s.sp + 3)) lo.2
    HasItsOpcode .rti ∧ ∃ p,
      exec .rti s = .next (((hi.2.setSp (s.sp + 3)).setP p).setPc
        (BitVec.ofNat 16 (hi.1.toNat * 256 + lo.1.toNat))) ∧
      getFlag p .K = true ∧ FlagsKept st.1 p [.K]

/-! ### Interrupts, reset, clock -/

/-- 60_exceptions.md R170: the reset service loads `PC` with the word at 0xFFFC and 0xFFFD, low byte first,
clears the latch, and writes nothing else; nothing is pushed. -/
def Obligations.ResetServiceLoadsTheVector : Prop :=
  ∀ s : State, s.pending = .reset →
    let lo := memRead 0xFFFC s
    let hi := memRead 0xFFFD lo.2
    interruptCheck s = (hi.2.setPc (BitVec.ofNat 16 (hi.1.toNat * 256 + lo.1.toNat))).setPending .none

/-- 60_exceptions.md R171, R172: IRQ entry (with I clear) and NMI entry (whatever I is) push `PC`, high byte
first, then `P` as held, read the vector (0xFFFE, or `NMI_VECTOR`) low byte first into `PC`, clear the
latch, set I only with `ENTRY_SETS_I`, and change nothing else; `SP` ends 3 lower; the six port calls are
made in that order. -/
def Obligations.InterruptEntryPushesPcAndP : Prop :=
  ∀ (s : State) (vector : Addr), s.mem.wf = true →
    ((s.pending = .irq ∧ getFlag s.p .I = false ∧ vector = 0xFFFE) ∨
      (s.pending = .nmi ∧ vector = s.config.nmiVector)) →
    ∃ lo hi, ∃ t, interruptCheck s = t ∧
      t.portLog = .read (vector + 1) hi :: .read vector lo :: .write (stackAddr (s.sp - 2)) s.p ::
        .write (stackAddr (s.sp - 1)) (BitVec.ofNat 8 (s.pc.toNat % 256)) ::
        .write (stackAddr s.sp) (BitVec.ofNat 8 (s.pc.toNat / 256)) :: s.portLog ∧
      t.pc.toNat = hi.toNat * 256 + lo.toNat ∧ t.sp = s.sp - 3 ∧ t.pending = .none ∧
      getFlag t.p .I = (getFlag s.p .I || s.config.entrySetsI) ∧ FlagsKept s.p t.p [.I] ∧
      (isDevice s.config vector = false → lo = t.peek vector) ∧
      (isDevice s.config (vector + 1) = false → hi = t.peek (vector + 1)) ∧
      (StackIsRam s → t.peek (stackAddr (s.sp - 2)) = s.p ∧
        (t.peek (stackAddr s.sp)).toNat * 256 + (t.peek (stackAddr (s.sp - 1))).toNat = s.pc.toNat) ∧
      (∀ b, b ≠ stackAddr s.sp → b ≠ stackAddr (s.sp - 1) → b ≠ stackAddr (s.sp - 2) →
        t.peek b = s.peek b) ∧
      t = { s with
        pc := t.pc, sp := t.sp, p := t.p, pending := t.pending, mem := t.mem, portLog := t.portLog,
        hostReads := t.hostReads }

/-- 60_exceptions.md R168, R173, R174: with nothing pending, or with an `irq` pending while I is set, the
interrupt check changes nothing at all; in every other case it empties the latch. -/
def Obligations.MaskedIrqStaysPending : Prop :=
  ∀ s : State,
    (s.pending = .none → interruptCheck s = s) ∧
    (s.pending = .irq → getFlag s.p .I = true → interruptCheck s = s) ∧
    (s.pending = .irq → getFlag s.p .I = false → (interruptCheck s).pending = .none) ∧
    (s.pending = .nmi → (interruptCheck s).pending = .none) ∧
    (s.pending = .reset → (interruptCheck s).pending = .none)

/-- 60_exceptions.md R175 (a), 46_system.md R156: RTI after an interrupt entry, with the stack page in RAM,
restores `P`, `PC` and `SP` as they were at the entry; `A`, `X`, `Y` and RAM outside the three stack bytes
are untouched. -/
def Obligations.RtiAfterEntryRestores : Prop :=
  ∀ s : State, s.Inv → StackIsRam s →
    ((s.pending = .irq ∧ getFlag s.p .I = false) ∨ s.pending = .nmi) →
    ∃ u, exec .rti (interruptCheck s) = .next u ∧ u.p = s.p ∧ u.pc = s.pc ∧ u.sp = s.sp ∧
      u.pending = .none ∧
      (∀ b, b ≠ stackAddr s.sp → b ≠ stackAddr (s.sp - 1) → b ≠ stackAddr (s.sp - 2) →
        u.peek b = s.peek b) ∧
      u = { s with
        pending := u.pending, mem := u.mem, portLog := u.portLog, hostReads := u.hostReads }

/-- 70_reset_and_hazards.md R190, 10_state.md R25: `reset()` zeroes `A`, `X`, `Y` and `SP`, sets `P` to
0x20, files the request and runs the clock; `PC`, the counter, memory and the port are untouched. The
reset service then loads `PC` from 0xFFFC, low byte first, and clears the latch. A faulted core ignores
the input. -/
def Obligations.ResetThenServiceGivesTheTableOfValues : Prop :=
  ∀ s : State,
    (s.fault = none → applyInput s .reset = { s with
      a := 0, x := 0, y := 0, sp := 0, p := 0x20, pending := .reset, clockMode := .running }) ∧
    (s.fault ≠ none → applyInput s .reset = s) ∧
    (s.fault = none → isDevice s.config 0xFFFC = false → isDevice s.config 0xFFFD = false →
      interruptCheck (applyInput s .reset) = { s with
        a := 0, x := 0, y := 0, sp := 0, p := 0x20, pending := .none, clockMode := .running,
        pc := BitVec.ofNat 16 ((s.peek 0xFFFD).toNat * 256 + (s.peek 0xFFFC).toNat),
        portLog := .read 0xFFFD (s.peek 0xFFFD) :: .read 0xFFFC (s.peek 0xFFFC) :: s.portLog })

/-- 60_exceptions.md R165, R166, R176, R177: what each of the other four inputs writes: a trigger its
request, and `triggerIRQB` also B, masked or not, waking the core from `waitForInterrupt` only;
`startClock` and `pauseClock` the clock mode only. A faulted core ignores them (R188). -/
def Obligations.HostInputsWriteTheLatchAndTheClock : Prop :=
  ∀ s : State,
    let woken : ClockMode := if s.clockMode = .waitForInterrupt then .running else s.clockMode
    (s.fault = none →
      (∀ b, ∃ p, applyInput s (.triggerIRQB b) = { s with p := p, pending := .irq, clockMode := woken } ∧
        getFlag p .B = b ∧ FlagsKept s.p p [.B]) ∧
      applyInput s .triggerNMIB = { s with pending := .nmi, clockMode := woken } ∧
      applyInput s .startClock = { s with clockMode := .running } ∧
      applyInput s .pauseClock = { s with clockMode := .paused }) ∧
    (s.fault ≠ none → ∀ i, applyInput s i = s)

/-- 60_exceptions.md R167: the latch holds the last request only. Of two triggers between two steps the
second one's kind is pending and B is what the last `triggerIRQB` wrote: `triggerNMIB` then `triggerIRQB`
is `triggerIRQB` alone; `triggerIRQB` then `triggerNMIB` is `triggerIRQB` with the request made an `nmi`,
which the next interrupt check delivers and which leaves nothing pending; of two `triggerIRQB` the second
alone counts, and `triggerNMIB` twice is once. A trigger after `reset()` takes the place of its request and
changes nothing else of the state it left but, for `triggerIRQB`, B. -/
def Obligations.LastTriggerWins : Prop :=
  ∀ (s : State) (b b' : Bool), s.fault = none →
    applyInput (applyInput s .triggerNMIB) (.triggerIRQB b) = applyInput s (.triggerIRQB b) ∧
    (applyInput (applyInput s .triggerNMIB) (.triggerIRQB b)).pending = .irq ∧
    getFlag (applyInput (applyInput s .triggerNMIB) (.triggerIRQB b)).p .B = b ∧
    applyInput (applyInput s (.triggerIRQB b)) .triggerNMIB = (applyInput s (.triggerIRQB b)).setPending .nmi ∧
    (applyInput (applyInput s (.triggerIRQB b)) .triggerNMIB).pending = .nmi ∧
    getFlag (applyInput (applyInput s (.triggerIRQB b)) .triggerNMIB).p .B = b ∧
    (interruptCheck (applyInput (applyInput s (.triggerIRQB b)) .triggerNMIB)).pending = .none ∧
    applyInput (applyInput s (.triggerIRQB b)) (.triggerIRQB b') = applyInput s (.triggerIRQB b') ∧
    (applyInput (applyInput s (.triggerIRQB b)) (.triggerIRQB b')).pending = .irq ∧
    getFlag (applyInput (applyInput s (.triggerIRQB b)) (.triggerIRQB b')).p .B = b' ∧
    applyInput (applyInput s .triggerNMIB) .triggerNMIB = applyInput s .triggerNMIB ∧
    (applyInput (applyInput s .triggerNMIB) .triggerNMIB).pending = .nmi ∧
    applyInput (applyInput s .reset) .triggerNMIB = (applyInput s .reset).setPending .nmi ∧
    ∃ p, applyInput (applyInput s .reset) (.triggerIRQB b) =
        ((applyInput s .reset).setP p).setPending .irq ∧
      getFlag p .B = b ∧ FlagsKept (applyInput s .reset).p p [.B]

/-- 60_exceptions.md R180: the table of clock-mode transitions: the inputs by current mode, and what the
retirement of an instruction of a running core does: the cap pauses it, else WAI puts it to sleep, else
it runs on. -/
def Obligations.ClockModeFollowsTheTable : Prop :=
  (∀ s : State, s.fault = none →
    (applyInput s .reset).clockMode = .running ∧
    (∀ b, (applyInput s (.triggerIRQB b)).clockMode =
      match s.clockMode with | .paused => .paused | .running => .running | .waitForInterrupt => .running) ∧
    (applyInput s .triggerNMIB).clockMode =
      (match s.clockMode with | .paused => .paused | .running => .running | .waitForInterrupt => .running) ∧
    (applyInput s .startClock).clockMode = .running ∧
    (applyInput s .pauseClock).clockMode = .paused) ∧
  ∀ (i : Instr) (s t : State), s.clockMode = .running → exec i s = .next t →
    (retire t).clockMode =
      if ∃ m, s.config.maxInstructions = some m ∧ m ≤ s.executed + 1 then .paused
      else if i = .wai then .waitForInterrupt else .running

/-! ### The step -/

/-- 40_execution_and_addressing.md R65 to R69, R88, 20_memory.md R31: in a running core, after the inputs and
the interrupt check, when the bytes the port answers from `PC` on, whatever they are read from, are the code
of a bound instruction, the step makes just those reads in order, moves `PC` past the code, executes that
instruction and retires it. When the bytes stand in plain RAM they are the bytes RAM holds, and the step is
the one that RAM's bytes at `PC` decode to. -/
def Obligations.StepRunsTheDecodedInstruction : Prop :=
  (∀ (s : State) (i : Instr), s.fault = none → (takeInputs s).clockMode = .running →
    let u := s.atFetch
    let code := portReads i.length u.pc u
    decode u.config code.1 = .ok (i, []) →
    ∃ t, exec i (code.2.setPc (u.pc + BitVec.ofNat 16 i.length)) = .next t ∧ step s = .next (retire t)) ∧
  ∀ (s : State) (i : Instr) (rest : List Byte), s.fault = none → (takeInputs s).clockMode = .running →
    let u := s.atFetch
    decode u.config [u.peek u.pc, u.peek (u.pc + 1), u.peek (u.pc + 2)] = .ok (i, rest) →
    (∀ k, k < i.length → isDevice u.config (u.pc + BitVec.ofNat 16 k) = false) →
    let reads := (List.range i.length).map fun k =>
      PortCall.read (u.pc + BitVec.ofNat 16 k) (u.peek (u.pc + BitVec.ofNat 16 k))
    let v := (u.setPc (u.pc + BitVec.ofNat 16 i.length)).setPortLog (reads.reverse ++ u.portLog)
    ∃ t, exec i v = .next t ∧ step s = .next (retire t)

/-- 60_exceptions.md R161, 40_execution_and_addressing.md R67: when the byte fetched is unbound, the step
ends in the state the fetch left: the fault is latched, `PC` is one past the byte, the opcode read is the
only port call after the interrupt check, nothing is counted; no step is taken from that state. That the
faulting step answers a next state is the model's choice (log entry 10). -/
def Obligations.UnboundOpcodeLatchesInvalidOpcode : Prop :=
  ∀ (s : State) (op : Byte), s.fault = none → (takeInputs s).clockMode = .running →
    let u := s.atFetch
    (memRead u.pc u).1 = op → decodeOpcode u.config op = none →
    ∃ t, step s = .next t ∧ t.fault = some (.invalidOpcode op) ∧ t.pc = u.pc + 1 ∧
      t.portLog = .read u.pc op :: u.portLog ∧ t.executed = s.executed ∧
      t = { u with pc := t.pc, fault := t.fault, portLog := t.portLog, hostReads := t.hostReads } ∧
      step t = .fault (.invalidOpcode op)

/-- 60_exceptions.md R160, R188: from a core without a fault `step` always answers a next state, and the only
fault a step can leave behind is `InvalidOpcode` of an unbound byte; a faulted core takes no step and
ignores every input. The model's choices here: that a boundary at which the clock does not run is a step
with a next state, where the spec takes no step (40_execution_and_addressing.md R65, 10_state.md R19; log
entry 11); that a step which faults answers a next state (log entry 10); that every port read returns (log
entry 16). -/
def Obligations.OnlyInvalidOpcodeEndsARun : Prop :=
  ∀ s : State,
    (s.fault = none → ∃ t, step s = .next t ∧
      (t.fault = none ∨ ∃ op, t.fault = some (.invalidOpcode op) ∧ decodeOpcode s.config op = none)) ∧
    (∀ r, s.fault = some r → step s = .fault r ∧ ∀ i, applyInput s i = s)

/-- 40_execution_and_addressing.md R65, 10_state.md R19: while the clock does not run after the inputs of
the boundary, the step makes no port call, executes nothing and changes no register: only the inputs take
effect. A step with no input left to land then changes nothing. That such a boundary is a step at all is the
model's choice (log entry 11). -/
def Obligations.StoppedClockMakesNoPortCall : Prop :=
  ∀ s : State, s.fault = none → (takeInputs s).clockMode ≠ .running →
    ∃ t, step s = .next t ∧ t = takeInputs s ∧ t.portLog = s.portLog ∧ t.mem = s.mem ∧
      t.executed = s.executed ∧ t.pc = s.pc ∧ (s.schedule = [] → t = s)

/-- 40_execution_and_addressing.md R69, 60_exceptions.md R182: retiring adds 1 to the counter; the clock is
then paused iff a cap is configured and the new count is at least the cap; nothing else changes. -/
def Obligations.RetireCountsAndAppliesTheCap : Prop :=
  ∀ s : State,
    (∀ m, s.config.maxInstructions = some m →
      retire s = { s with
        executed := s.executed + 1
        clockMode := if m ≤ s.executed + 1 then .paused else s.clockMode }) ∧
    (s.config.maxInstructions = none → retire s = { s with executed := s.executed + 1 })

/-! ### Whole-machine rules -/

/-- 10_state.md R15: bit 5 of `P` set and RAM in canonical form is an invariant: every step from any state
that has it, under every configuration and schedule, leads to a state that has it. -/
def Obligations.StepKeepsTheInvariant : Prop :=
  ∀ s t : State, s.Inv → step s = .next t → t.Inv

/-- 10_state.md R24, R25: the invariant holds after the first `reset()` of a newly constructed core whatever
its registers held, and `State.reset` is such a state. The RAM is any canonical one; which values
`State.reset` takes where the spec gives none is the model's choice (log entries 1, 4 to 8). -/
def Obligations.ResetEstablishesTheInvariant : Prop :=
  (∀ (a x y sp p : Byte) (pc : Addr) (mem : Memory) (cfg : Config), mem.wf = true →
    (applyInput (State.atConstruction a x y sp p pc mem cfg) .reset).Inv) ∧
  State.reset = applyInput (State.atConstruction 0 0 0 0 0 0 [] Config.default) .reset ∧
  State.reset.Inv

/-- 10_state.md R15, R22, 60_exceptions.md R160: over every run from a reset of a newly constructed core,
with any register values before it, any memory, any configuration and any schedule of inputs: bit 5 of
`P` is 1, RAM is canonical, the count is at most the number of steps, and the core has either no fault or
`InvalidOpcode` of an unbound byte. -/
def Obligations.EveryRunFromResetIsSound : Prop :=
  ∀ (k : Nat) (a x y sp p : Byte) (pc : Addr) (mem : Memory) (cfg : Config)
    (schedule : List (List HostInput)) (t : State), mem.wf = true →
    Steps k ((applyInput (State.atConstruction a x y sp p pc mem cfg) .reset).setSchedule schedule) t →
    t.Inv ∧ t.executed ≤ k ∧ t.config = cfg ∧
      (t.safe ∨ ∃ op, t.fault = some (.invalidOpcode op) ∧ decodeOpcode cfg op = none)

/-- 10_state.md R21, 20_memory.md R45, 00_scope.md R5: every step leaves the configuration as it is, only
adds to the log of port calls, uses up one batch of inputs, and counts one instruction exactly when the
clock runs and no fault is raised. The log and the batches are the model's own fields (log entries 7, 8). -/
def Obligations.StepOnlyAddsToTheHistory : Prop :=
  ∀ s t : State, step s = .next t →
    t.config = s.config ∧ t.schedule = s.schedule.tail ∧ (∃ calls : List PortCall, t.portLog = calls ++ s.portLog) ∧
      t.executed = s.executed +
        (if (takeInputs s).clockMode = .running ∧ t.fault = none then 1 else 0)

/-- 10_state.md R14, column "written by": an instruction changes no flag but those the table gives it; an
input other than `reset()` changes no flag but B, and that only if it is `triggerIRQB`; interrupt entry
changes no flag but I, and that only with `ENTRY_SETS_I`. -/
def Obligations.FlagsChangeOnlyByTheirWriters : Prop :=
  (∀ (i : Instr) (s t : State) (f : Flag), exec i s = .next t → writesFlag i.form f = false →
    getFlag t.p f = getFlag s.p f) ∧
  (∀ (s : State) (inp : HostInput) (f : Flag), inp ≠ .reset →
    (f ≠ .B ∨ ∀ b, inp ≠ .triggerIRQB b) → getFlag (applyInput s inp).p f = getFlag s.p f) ∧
  ∀ (s : State) (f : Flag), (f ≠ .I ∨ s.config.entrySetsI = false) →
    getFlag (interruptCheck s).p f = getFlag s.p f

/-- 10_state.md R10, R11, R12, R19, R20: an instruction leaves `A`, `X`, `Y`, `SP`, `PC`, the clock mode, the
latch, the counter, the fault, the configuration and the schedule as they are, except that the
instructions the rules name as their writers write them. -/
def Obligations.RegistersChangeOnlyByTheirWriters : Prop :=
  ∀ (i : Instr) (s t : State), exec i s = .next t →
    (t.a ≠ s.a → (∃ f o, i.form = .read f o ∧ f ∈ [.lda, .ora, .and, .eor, .adc, .sbc]) ∨
      (∃ f, i.form = .rmw f .accumulator) ∨ i ∈ [.pla, .txa, .tya]) ∧
    (t.x ≠ s.x → (∃ o, i.form = .read .ldx o) ∨ i ∈ [.tax, .tsx, .inx, .dex]) ∧
    (t.y ≠ s.y → (∃ o, i.form = .read .ldy o) ∨ i ∈ [.tay, .iny, .dey]) ∧
    (t.sp ≠ s.sp → (∃ a, i = .jsr a) ∨ i ∈ [.pha, .php, .pla, .plp, .rts, .rti, .txs]) ∧
    (t.pc ≠ s.pc → (∃ f d, i.form = .branch f d) ∨ (∃ a, i = .jmpAbs a ∨ i = .jmpInd a ∨ i = .jsr a) ∨
      i ∈ [.rts, .rti]) ∧
    (t.clockMode ≠ s.clockMode → i = .wai) ∧ (t.pending ≠ s.pending → i = .brk) ∧
    t.executed = s.executed ∧ t.fault = s.fault ∧ t.config = s.config ∧ t.schedule = s.schedule

/-- 41_load_store.md R93 to R95, 43_shift_rotate_incdec.md R110 to R115, 44_branch_jump_subroutine.md R131,
45_transfer_flag_stack.md R148, R150: the frame of memory: whatever instruction executes, every byte of RAM
outside the addresses its form stores to reads as before, all of RAM for the forms that store nothing. -/
def Obligations.MemoryChangesOnlyWhereStored : Prop :=
  ∀ (i : Instr) (s t : State), s.mem.wf = true → exec i s = .next t →
    ∀ b, b ∉ storedAddrs i.form s → t.peek b = s.peek b

/-- 40_execution_and_addressing.md R87, 20_memory.md R45: every instruction makes exactly the port calls of
the table, in its order, at its addresses, and no others. -/
def Obligations.PortCallsAreExactlyTheTables : Prop :=
  ∀ (i : Instr) (s t : State), exec i s = .next t →
    ∃ calls : List PortCall, t.portLog = calls.reverse ++ s.portLog ∧ calls.map access = portCalls i.form s

/-- 10_state.md R17: the decimal flag is inert: changing it before an instruction changes nothing that the
instruction does but the flag itself (and not even that if the instruction loads it); PHP, which pushes
it, is the one exception. This compares two runs: that a device read answers the same byte in both is the
model's choice (log entry 6: the free value depends on the count and the address of the read alone, so the
entry calls itself unsafe for such a claim). What PHP pushes is in `PushInstructionsStoreAOrP`. -/
def Obligations.DecimalFlagIsInert : Prop :=
  ∀ (i : Instr) (s t : State) (d : Bool), i ≠ .php → exec i s = .next t →
    exec i (s.writeFlag .D d) =
      .next (if writesFlag i.form .D then t else t.writeFlag .D d)

end
end

