-- ==== Sys2Proof/Laws/Decode.lean ====
section
/-!
SUPPORT. Halves of a 16-bit value, and what the decoder answers for each shape of an opcode.
-/

namespace Sys2Proof

theorem wordOf_toNat (hi lo : Byte) : (wordOf hi lo).toNat = hi.toNat * 256 + lo.toNat := by
  have hlo := lo.isLt
  simp only [wordOf, BitVec.toNat_append]
  rw [← Nat.shiftLeft_add_eq_or_of_lt hlo, Nat.shiftLeft_eq]

theorem loByte_toNat (v : Addr) : (loByte v).toNat = v.toNat % 256 := by
  simp [loByte]

theorem hiByte_toNat (v : Addr) : (hiByte v).toNat = v.toNat / 256 := by
  have := v.isLt
  simp only [hiByte, BitVec.toNat_setWidth, BitVec.toNat_ushiftRight, Nat.shiftRight_eq_div_pow]
  omega

@[simp] theorem wordOf_halves (v : Addr) : wordOf (hiByte v) (loByte v) = v := by
  apply BitVec.eq_of_toNat_eq
  rw [wordOf_toNat, hiByte_toNat, loByte_toNat]
  omega

@[simp] theorem hiByte_wordOf (hi lo : Byte) : hiByte (wordOf hi lo) = hi := by
  have := lo.isLt
  apply BitVec.eq_of_toNat_eq
  rw [hiByte_toNat, wordOf_toNat]
  omega

@[simp] theorem loByte_wordOf (hi lo : Byte) : loByte (wordOf hi lo) = lo := by
  have := lo.isLt
  apply BitVec.eq_of_toNat_eq
  rw [loByte_toNat, wordOf_toNat]
  omega

section
variable {cfg : Config} {op : Byte}

/-- Outside tier S the decoder answers what the matrix shows, under every configuration. -/
theorem decodeOpcode_plain (h : tierSOpcodes.contains op = false) :
    decodeOpcode cfg op = matrix op := by
  simp only [decodeOpcode, h, Bool.and_false]
  rfl

/-- With tier S bound the decoder answers what the matrix shows. -/
theorem decodeOpcode_tierS (h : cfg.bindTierS = true) : decodeOpcode cfg op = matrix op := by
  simp [decodeOpcode, h]

theorem decode_noOperand {i : Instr} (h : decodeOpcode cfg op = some (.noOperand i))
    (rest : List Byte) : decode cfg (op :: rest) = .ok (i, rest) := by
  simp [decode, h]

theorem decode_byteOperand {f : Byte → Instr} (h : decodeOpcode cfg op = some (.byteOperand f))
    (v : Byte) (rest : List Byte) : decode cfg (op :: v :: rest) = .ok (f v, rest) := by
  simp [decode, h]

theorem decode_wordOperand {f : Addr → Instr} (h : decodeOpcode cfg op = some (.wordOperand f))
    (v : Addr) (rest : List Byte) :
    decode cfg (op :: loByte v :: hiByte v :: rest) = .ok (f v, rest) := by
  simp [decode, h]

theorem decode_unbound (h : decodeOpcode cfg op = none) (rest : List Byte) :
    decode cfg (op :: rest) = .error (.unbound op) := by
  simp [decode, h]

end

/-- The code of the instructions an opcode stands for: the opcode, then the operand. -/
def Shape.EncodesAs (op : Byte) : Shape → Prop
  | .noOperand i => encode i = [op]
  | .byteOperand f => ∀ v, encode (f v) = [op, v]
  | .wordOperand f => ∀ v, encode (f v) = [op, loByte v, hiByte v]

/-- Every cell of the matrix shows instructions whose opcode is the cell's. -/
theorem matrix_encodes (op : Byte) : ∀ sh ∈ matrix op, sh.EncodesAs op := by
  have key : (matrix op).elim True (Shape.EncodesAs op) := by
    obtain ⟨n, h, rfl⟩ : ∃ n, n < 256 ∧ op = BitVec.ofNat 8 n := ⟨op.toNat, op.isLt, by simp⟩
    interval_cases n <;>
      first
      | exact True.intro
      | exact (rfl : (_ : List Byte) = _)
      | exact fun _ => (rfl : (_ : List Byte) = _)
  intro sh h
  rw [h] at key
  exact key

/-- An opcode that is bound under some configuration is in the matrix. -/
theorem matrix_of_decodeOpcode {cfg : Config} {op : Byte} {sh : Shape}
    (h : decodeOpcode cfg op = some sh) : matrix op = some sh := by
  unfold decodeOpcode at h
  split at h
  · cases h
  · exact h

end Sys2Proof
end

