-- ==== Sys2Proof/Laws/State.lean ====
section
/-!
SUPPORT. What each field of the state reads after each update: one lemma per field per update, true by
definition, so that no later proof unfolds a record update. Two updates of one field keep the later.
-/

namespace Sys2Proof.Machine

section
variable (s : State)

@[simp] theorem State.setA_a (v : Byte) : (s.setA v).a = v := rfl
@[simp] theorem State.setA_x (v : Byte) : (s.setA v).x = s.x := rfl
@[simp] theorem State.setA_y (v : Byte) : (s.setA v).y = s.y := rfl
@[simp] theorem State.setA_sp (v : Byte) : (s.setA v).sp = s.sp := rfl
@[simp] theorem State.setA_p (v : Byte) : (s.setA v).p = s.p := rfl
@[simp] theorem State.setA_pc (v : Byte) : (s.setA v).pc = s.pc := rfl
@[simp] theorem State.setA_clockMode (v : Byte) : (s.setA v).clockMode = s.clockMode := rfl
@[simp] theorem State.setA_pending (v : Byte) : (s.setA v).pending = s.pending := rfl
@[simp] theorem State.setA_executed (v : Byte) : (s.setA v).executed = s.executed := rfl
@[simp] theorem State.setA_fault (v : Byte) : (s.setA v).fault = s.fault := rfl
@[simp] theorem State.setA_mem (v : Byte) : (s.setA v).mem = s.mem := rfl
@[simp] theorem State.setA_portLog (v : Byte) : (s.setA v).portLog = s.portLog := rfl
@[simp] theorem State.setA_hostReads (v : Byte) : (s.setA v).hostReads = s.hostReads := rfl
@[simp] theorem State.setA_schedule (v : Byte) : (s.setA v).schedule = s.schedule := rfl
@[simp] theorem State.setA_config (v : Byte) : (s.setA v).config = s.config := rfl
@[simp] theorem State.setA_setA (v w : Byte) : (s.setA v).setA w = s.setA w := rfl
@[simp] theorem State.setA_self : s.setA s.a = s := rfl

@[simp] theorem State.setX_a (v : Byte) : (s.setX v).a = s.a := rfl
@[simp] theorem State.setX_x (v : Byte) : (s.setX v).x = v := rfl
@[simp] theorem State.setX_y (v : Byte) : (s.setX v).y = s.y := rfl
@[simp] theorem State.setX_sp (v : Byte) : (s.setX v).sp = s.sp := rfl
@[simp] theorem State.setX_p (v : Byte) : (s.setX v).p = s.p := rfl
@[simp] theorem State.setX_pc (v : Byte) : (s.setX v).pc = s.pc := rfl
@[simp] theorem State.setX_clockMode (v : Byte) : (s.setX v).clockMode = s.clockMode := rfl
@[simp] theorem State.setX_pending (v : Byte) : (s.setX v).pending = s.pending := rfl
@[simp] theorem State.setX_executed (v : Byte) : (s.setX v).executed = s.executed := rfl
@[simp] theorem State.setX_fault (v : Byte) : (s.setX v).fault = s.fault := rfl
@[simp] theorem State.setX_mem (v : Byte) : (s.setX v).mem = s.mem := rfl
@[simp] theorem State.setX_portLog (v : Byte) : (s.setX v).portLog = s.portLog := rfl
@[simp] theorem State.setX_hostReads (v : Byte) : (s.setX v).hostReads = s.hostReads := rfl
@[simp] theorem State.setX_schedule (v : Byte) : (s.setX v).schedule = s.schedule := rfl
@[simp] theorem State.setX_config (v : Byte) : (s.setX v).config = s.config := rfl
@[simp] theorem State.setX_setX (v w : Byte) : (s.setX v).setX w = s.setX w := rfl
@[simp] theorem State.setX_self : s.setX s.x = s := rfl

@[simp] theorem State.setY_a (v : Byte) : (s.setY v).a = s.a := rfl
@[simp] theorem State.setY_x (v : Byte) : (s.setY v).x = s.x := rfl
@[simp] theorem State.setY_y (v : Byte) : (s.setY v).y = v := rfl
@[simp] theorem State.setY_sp (v : Byte) : (s.setY v).sp = s.sp := rfl
@[simp] theorem State.setY_p (v : Byte) : (s.setY v).p = s.p := rfl
@[simp] theorem State.setY_pc (v : Byte) : (s.setY v).pc = s.pc := rfl
@[simp] theorem State.setY_clockMode (v : Byte) : (s.setY v).clockMode = s.clockMode := rfl
@[simp] theorem State.setY_pending (v : Byte) : (s.setY v).pending = s.pending := rfl
@[simp] theorem State.setY_executed (v : Byte) : (s.setY v).executed = s.executed := rfl
@[simp] theorem State.setY_fault (v : Byte) : (s.setY v).fault = s.fault := rfl
@[simp] theorem State.setY_mem (v : Byte) : (s.setY v).mem = s.mem := rfl
@[simp] theorem State.setY_portLog (v : Byte) : (s.setY v).portLog = s.portLog := rfl
@[simp] theorem State.setY_hostReads (v : Byte) : (s.setY v).hostReads = s.hostReads := rfl
@[simp] theorem State.setY_schedule (v : Byte) : (s.setY v).schedule = s.schedule := rfl
@[simp] theorem State.setY_config (v : Byte) : (s.setY v).config = s.config := rfl
@[simp] theorem State.setY_setY (v w : Byte) : (s.setY v).setY w = s.setY w := rfl
@[simp] theorem State.setY_self : s.setY s.y = s := rfl

@[simp] theorem State.setSp_a (v : Byte) : (s.setSp v).a = s.a := rfl
@[simp] theorem State.setSp_x (v : Byte) : (s.setSp v).x = s.x := rfl
@[simp] theorem State.setSp_y (v : Byte) : (s.setSp v).y = s.y := rfl
@[simp] theorem State.setSp_sp (v : Byte) : (s.setSp v).sp = v := rfl
@[simp] theorem State.setSp_p (v : Byte) : (s.setSp v).p = s.p := rfl
@[simp] theorem State.setSp_pc (v : Byte) : (s.setSp v).pc = s.pc := rfl
@[simp] theorem State.setSp_clockMode (v : Byte) : (s.setSp v).clockMode = s.clockMode := rfl
@[simp] theorem State.setSp_pending (v : Byte) : (s.setSp v).pending = s.pending := rfl
@[simp] theorem State.setSp_executed (v : Byte) : (s.setSp v).executed = s.executed := rfl
@[simp] theorem State.setSp_fault (v : Byte) : (s.setSp v).fault = s.fault := rfl
@[simp] theorem State.setSp_mem (v : Byte) : (s.setSp v).mem = s.mem := rfl
@[simp] theorem State.setSp_portLog (v : Byte) : (s.setSp v).portLog = s.portLog := rfl
@[simp] theorem State.setSp_hostReads (v : Byte) : (s.setSp v).hostReads = s.hostReads := rfl
@[simp] theorem State.setSp_schedule (v : Byte) : (s.setSp v).schedule = s.schedule := rfl
@[simp] theorem State.setSp_config (v : Byte) : (s.setSp v).config = s.config := rfl
@[simp] theorem State.setSp_setSp (v w : Byte) : (s.setSp v).setSp w = s.setSp w := rfl
@[simp] theorem State.setSp_self : s.setSp s.sp = s := rfl

@[simp] theorem State.setP_a (v : Byte) : (s.setP v).a = s.a := rfl
@[simp] theorem State.setP_x (v : Byte) : (s.setP v).x = s.x := rfl
@[simp] theorem State.setP_y (v : Byte) : (s.setP v).y = s.y := rfl
@[simp] theorem State.setP_sp (v : Byte) : (s.setP v).sp = s.sp := rfl
@[simp] theorem State.setP_p (v : Byte) : (s.setP v).p = v := rfl
@[simp] theorem State.setP_pc (v : Byte) : (s.setP v).pc = s.pc := rfl
@[simp] theorem State.setP_clockMode (v : Byte) : (s.setP v).clockMode = s.clockMode := rfl
@[simp] theorem State.setP_pending (v : Byte) : (s.setP v).pending = s.pending := rfl
@[simp] theorem State.setP_executed (v : Byte) : (s.setP v).executed = s.executed := rfl
@[simp] theorem State.setP_fault (v : Byte) : (s.setP v).fault = s.fault := rfl
@[simp] theorem State.setP_mem (v : Byte) : (s.setP v).mem = s.mem := rfl
@[simp] theorem State.setP_portLog (v : Byte) : (s.setP v).portLog = s.portLog := rfl
@[simp] theorem State.setP_hostReads (v : Byte) : (s.setP v).hostReads = s.hostReads := rfl
@[simp] theorem State.setP_schedule (v : Byte) : (s.setP v).schedule = s.schedule := rfl
@[simp] theorem State.setP_config (v : Byte) : (s.setP v).config = s.config := rfl
@[simp] theorem State.setP_setP (v w : Byte) : (s.setP v).setP w = s.setP w := rfl
@[simp] theorem State.setP_self : s.setP s.p = s := rfl

@[simp] theorem State.setPc_a (v : Addr) : (s.setPc v).a = s.a := rfl
@[simp] theorem State.setPc_x (v : Addr) : (s.setPc v).x = s.x := rfl
@[simp] theorem State.setPc_y (v : Addr) : (s.setPc v).y = s.y := rfl
@[simp] theorem State.setPc_sp (v : Addr) : (s.setPc v).sp = s.sp := rfl
@[simp] theorem State.setPc_p (v : Addr) : (s.setPc v).p = s.p := rfl
@[simp] theorem State.setPc_pc (v : Addr) : (s.setPc v).pc = v := rfl
@[simp] theorem State.setPc_clockMode (v : Addr) : (s.setPc v).clockMode = s.clockMode := rfl
@[simp] theorem State.setPc_pending (v : Addr) : (s.setPc v).pending = s.pending := rfl
@[simp] theorem State.setPc_executed (v : Addr) : (s.setPc v).executed = s.executed := rfl
@[simp] theorem State.setPc_fault (v : Addr) : (s.setPc v).fault = s.fault := rfl
@[simp] theorem State.setPc_mem (v : Addr) : (s.setPc v).mem = s.mem := rfl
@[simp] theorem State.setPc_portLog (v : Addr) : (s.setPc v).portLog = s.portLog := rfl
@[simp] theorem State.setPc_hostReads (v : Addr) : (s.setPc v).hostReads = s.hostReads := rfl
@[simp] theorem State.setPc_schedule (v : Addr) : (s.setPc v).schedule = s.schedule := rfl
@[simp] theorem State.setPc_config (v : Addr) : (s.setPc v).config = s.config := rfl
@[simp] theorem State.setPc_setPc (v w : Addr) : (s.setPc v).setPc w = s.setPc w := rfl
@[simp] theorem State.setPc_self : s.setPc s.pc = s := rfl

@[simp] theorem State.setClockMode_a (v : ClockMode) : (s.setClockMode v).a = s.a := rfl
@[simp] theorem State.setClockMode_x (v : ClockMode) : (s.setClockMode v).x = s.x := rfl
@[simp] theorem State.setClockMode_y (v : ClockMode) : (s.setClockMode v).y = s.y := rfl
@[simp] theorem State.setClockMode_sp (v : ClockMode) : (s.setClockMode v).sp = s.sp := rfl
@[simp] theorem State.setClockMode_p (v : ClockMode) : (s.setClockMode v).p = s.p := rfl
@[simp] theorem State.setClockMode_pc (v : ClockMode) : (s.setClockMode v).pc = s.pc := rfl
@[simp] theorem State.setClockMode_clockMode (v : ClockMode) : (s.setClockMode v).clockMode = v := rfl
@[simp] theorem State.setClockMode_pending (v : ClockMode) : (s.setClockMode v).pending = s.pending := rfl
@[simp] theorem State.setClockMode_executed (v : ClockMode) : (s.setClockMode v).executed = s.executed := rfl
@[simp] theorem State.setClockMode_fault (v : ClockMode) : (s.setClockMode v).fault = s.fault := rfl
@[simp] theorem State.setClockMode_mem (v : ClockMode) : (s.setClockMode v).mem = s.mem := rfl
@[simp] theorem State.setClockMode_portLog (v : ClockMode) : (s.setClockMode v).portLog = s.portLog := rfl
@[simp] theorem State.setClockMode_hostReads (v : ClockMode) : (s.setClockMode v).hostReads = s.hostReads := rfl
@[simp] theorem State.setClockMode_schedule (v : ClockMode) : (s.setClockMode v).schedule = s.schedule := rfl
@[simp] theorem State.setClockMode_config (v : ClockMode) : (s.setClockMode v).config = s.config := rfl
@[simp] theorem State.setClockMode_setClockMode (v w : ClockMode) : (s.setClockMode v).setClockMode w = s.setClockMode w := rfl
@[simp] theorem State.setClockMode_self : s.setClockMode s.clockMode = s := rfl

@[simp] theorem State.setPending_a (v : PendingInterrupt) : (s.setPending v).a = s.a := rfl
@[simp] theorem State.setPending_x (v : PendingInterrupt) : (s.setPending v).x = s.x := rfl
@[simp] theorem State.setPending_y (v : PendingInterrupt) : (s.setPending v).y = s.y := rfl
@[simp] theorem State.setPending_sp (v : PendingInterrupt) : (s.setPending v).sp = s.sp := rfl
@[simp] theorem State.setPending_p (v : PendingInterrupt) : (s.setPending v).p = s.p := rfl
@[simp] theorem State.setPending_pc (v : PendingInterrupt) : (s.setPending v).pc = s.pc := rfl
@[simp] theorem State.setPending_clockMode (v : PendingInterrupt) : (s.setPending v).clockMode = s.clockMode := rfl
@[simp] theorem State.setPending_pending (v : PendingInterrupt) : (s.setPending v).pending = v := rfl
@[simp] theorem State.setPending_executed (v : PendingInterrupt) : (s.setPending v).executed = s.executed := rfl
@[simp] theorem State.setPending_fault (v : PendingInterrupt) : (s.setPending v).fault = s.fault := rfl
@[simp] theorem State.setPending_mem (v : PendingInterrupt) : (s.setPending v).mem = s.mem := rfl
@[simp] theorem State.setPending_portLog (v : PendingInterrupt) : (s.setPending v).portLog = s.portLog := rfl
@[simp] theorem State.setPending_hostReads (v : PendingInterrupt) : (s.setPending v).hostReads = s.hostReads := rfl
@[simp] theorem State.setPending_schedule (v : PendingInterrupt) : (s.setPending v).schedule = s.schedule := rfl
@[simp] theorem State.setPending_config (v : PendingInterrupt) : (s.setPending v).config = s.config := rfl
@[simp] theorem State.setPending_setPending (v w : PendingInterrupt) : (s.setPending v).setPending w = s.setPending w := rfl
@[simp] theorem State.setPending_self : s.setPending s.pending = s := rfl

@[simp] theorem State.setExecuted_a (v : Nat) : (s.setExecuted v).a = s.a := rfl
@[simp] theorem State.setExecuted_x (v : Nat) : (s.setExecuted v).x = s.x := rfl
@[simp] theorem State.setExecuted_y (v : Nat) : (s.setExecuted v).y = s.y := rfl
@[simp] theorem State.setExecuted_sp (v : Nat) : (s.setExecuted v).sp = s.sp := rfl
@[simp] theorem State.setExecuted_p (v : Nat) : (s.setExecuted v).p = s.p := rfl
@[simp] theorem State.setExecuted_pc (v : Nat) : (s.setExecuted v).pc = s.pc := rfl
@[simp] theorem State.setExecuted_clockMode (v : Nat) : (s.setExecuted v).clockMode = s.clockMode := rfl
@[simp] theorem State.setExecuted_pending (v : Nat) : (s.setExecuted v).pending = s.pending := rfl
@[simp] theorem State.setExecuted_executed (v : Nat) : (s.setExecuted v).executed = v := rfl
@[simp] theorem State.setExecuted_fault (v : Nat) : (s.setExecuted v).fault = s.fault := rfl
@[simp] theorem State.setExecuted_mem (v : Nat) : (s.setExecuted v).mem = s.mem := rfl
@[simp] theorem State.setExecuted_portLog (v : Nat) : (s.setExecuted v).portLog = s.portLog := rfl
@[simp] theorem State.setExecuted_hostReads (v : Nat) : (s.setExecuted v).hostReads = s.hostReads := rfl
@[simp] theorem State.setExecuted_schedule (v : Nat) : (s.setExecuted v).schedule = s.schedule := rfl
@[simp] theorem State.setExecuted_config (v : Nat) : (s.setExecuted v).config = s.config := rfl
@[simp] theorem State.setExecuted_setExecuted (v w : Nat) : (s.setExecuted v).setExecuted w = s.setExecuted w := rfl
@[simp] theorem State.setExecuted_self : s.setExecuted s.executed = s := rfl

@[simp] theorem State.setFault_a (v : Option Fault) : (s.setFault v).a = s.a := rfl
@[simp] theorem State.setFault_x (v : Option Fault) : (s.setFault v).x = s.x := rfl
@[simp] theorem State.setFault_y (v : Option Fault) : (s.setFault v).y = s.y := rfl
@[simp] theorem State.setFault_sp (v : Option Fault) : (s.setFault v).sp = s.sp := rfl
@[simp] theorem State.setFault_p (v : Option Fault) : (s.setFault v).p = s.p := rfl
@[simp] theorem State.setFault_pc (v : Option Fault) : (s.setFault v).pc = s.pc := rfl
@[simp] theorem State.setFault_clockMode (v : Option Fault) : (s.setFault v).clockMode = s.clockMode := rfl
@[simp] theorem State.setFault_pending (v : Option Fault) : (s.setFault v).pending = s.pending := rfl
@[simp] theorem State.setFault_executed (v : Option Fault) : (s.setFault v).executed = s.executed := rfl
@[simp] theorem State.setFault_fault (v : Option Fault) : (s.setFault v).fault = v := rfl
@[simp] theorem State.setFault_mem (v : Option Fault) : (s.setFault v).mem = s.mem := rfl
@[simp] theorem State.setFault_portLog (v : Option Fault) : (s.setFault v).portLog = s.portLog := rfl
@[simp] theorem State.setFault_hostReads (v : Option Fault) : (s.setFault v).hostReads = s.hostReads := rfl
@[simp] theorem State.setFault_schedule (v : Option Fault) : (s.setFault v).schedule = s.schedule := rfl
@[simp] theorem State.setFault_config (v : Option Fault) : (s.setFault v).config = s.config := rfl
@[simp] theorem State.setFault_setFault (v w : Option Fault) : (s.setFault v).setFault w = s.setFault w := rfl
@[simp] theorem State.setFault_self : s.setFault s.fault = s := rfl

@[simp] theorem State.setMem_a (v : Memory) : (s.setMem v).a = s.a := rfl
@[simp] theorem State.setMem_x (v : Memory) : (s.setMem v).x = s.x := rfl
@[simp] theorem State.setMem_y (v : Memory) : (s.setMem v).y = s.y := rfl
@[simp] theorem State.setMem_sp (v : Memory) : (s.setMem v).sp = s.sp := rfl
@[simp] theorem State.setMem_p (v : Memory) : (s.setMem v).p = s.p := rfl
@[simp] theorem State.setMem_pc (v : Memory) : (s.setMem v).pc = s.pc := rfl
@[simp] theorem State.setMem_clockMode (v : Memory) : (s.setMem v).clockMode = s.clockMode := rfl
@[simp] theorem State.setMem_pending (v : Memory) : (s.setMem v).pending = s.pending := rfl
@[simp] theorem State.setMem_executed (v : Memory) : (s.setMem v).executed = s.executed := rfl
@[simp] theorem State.setMem_fault (v : Memory) : (s.setMem v).fault = s.fault := rfl
@[simp] theorem State.setMem_mem (v : Memory) : (s.setMem v).mem = v := rfl
@[simp] theorem State.setMem_portLog (v : Memory) : (s.setMem v).portLog = s.portLog := rfl
@[simp] theorem State.setMem_hostReads (v : Memory) : (s.setMem v).hostReads = s.hostReads := rfl
@[simp] theorem State.setMem_schedule (v : Memory) : (s.setMem v).schedule = s.schedule := rfl
@[simp] theorem State.setMem_config (v : Memory) : (s.setMem v).config = s.config := rfl
@[simp] theorem State.setMem_setMem (v w : Memory) : (s.setMem v).setMem w = s.setMem w := rfl
@[simp] theorem State.setMem_self : s.setMem s.mem = s := rfl

@[simp] theorem State.setPortLog_a (v : List PortCall) : (s.setPortLog v).a = s.a := rfl
@[simp] theorem State.setPortLog_x (v : List PortCall) : (s.setPortLog v).x = s.x := rfl
@[simp] theorem State.setPortLog_y (v : List PortCall) : (s.setPortLog v).y = s.y := rfl
@[simp] theorem State.setPortLog_sp (v : List PortCall) : (s.setPortLog v).sp = s.sp := rfl
@[simp] theorem State.setPortLog_p (v : List PortCall) : (s.setPortLog v).p = s.p := rfl
@[simp] theorem State.setPortLog_pc (v : List PortCall) : (s.setPortLog v).pc = s.pc := rfl
@[simp] theorem State.setPortLog_clockMode (v : List PortCall) : (s.setPortLog v).clockMode = s.clockMode := rfl
@[simp] theorem State.setPortLog_pending (v : List PortCall) : (s.setPortLog v).pending = s.pending := rfl
@[simp] theorem State.setPortLog_executed (v : List PortCall) : (s.setPortLog v).executed = s.executed := rfl
@[simp] theorem State.setPortLog_fault (v : List PortCall) : (s.setPortLog v).fault = s.fault := rfl
@[simp] theorem State.setPortLog_mem (v : List PortCall) : (s.setPortLog v).mem = s.mem := rfl
@[simp] theorem State.setPortLog_portLog (v : List PortCall) : (s.setPortLog v).portLog = v := rfl
@[simp] theorem State.setPortLog_hostReads (v : List PortCall) : (s.setPortLog v).hostReads = s.hostReads := rfl
@[simp] theorem State.setPortLog_schedule (v : List PortCall) : (s.setPortLog v).schedule = s.schedule := rfl
@[simp] theorem State.setPortLog_config (v : List PortCall) : (s.setPortLog v).config = s.config := rfl
@[simp] theorem State.setPortLog_setPortLog (v w : List PortCall) : (s.setPortLog v).setPortLog w = s.setPortLog w := rfl
@[simp] theorem State.setPortLog_self : s.setPortLog s.portLog = s := rfl

@[simp] theorem State.setHostReads_a (v : Nat) : (s.setHostReads v).a = s.a := rfl
@[simp] theorem State.setHostReads_x (v : Nat) : (s.setHostReads v).x = s.x := rfl
@[simp] theorem State.setHostReads_y (v : Nat) : (s.setHostReads v).y = s.y := rfl
@[simp] theorem State.setHostReads_sp (v : Nat) : (s.setHostReads v).sp = s.sp := rfl
@[simp] theorem State.setHostReads_p (v : Nat) : (s.setHostReads v).p = s.p := rfl
@[simp] theorem State.setHostReads_pc (v : Nat) : (s.setHostReads v).pc = s.pc := rfl
@[simp] theorem State.setHostReads_clockMode (v : Nat) : (s.setHostReads v).clockMode = s.clockMode := rfl
@[simp] theorem State.setHostReads_pending (v : Nat) : (s.setHostReads v).pending = s.pending := rfl
@[simp] theorem State.setHostReads_executed (v : Nat) : (s.setHostReads v).executed = s.executed := rfl
@[simp] theorem State.setHostReads_fault (v : Nat) : (s.setHostReads v).fault = s.fault := rfl
@[simp] theorem State.setHostReads_mem (v : Nat) : (s.setHostReads v).mem = s.mem := rfl
@[simp] theorem State.setHostReads_portLog (v : Nat) : (s.setHostReads v).portLog = s.portLog := rfl
@[simp] theorem State.setHostReads_hostReads (v : Nat) : (s.setHostReads v).hostReads = v := rfl
@[simp] theorem State.setHostReads_schedule (v : Nat) : (s.setHostReads v).schedule = s.schedule := rfl
@[simp] theorem State.setHostReads_config (v : Nat) : (s.setHostReads v).config = s.config := rfl
@[simp] theorem State.setHostReads_setHostReads (v w : Nat) : (s.setHostReads v).setHostReads w = s.setHostReads w := rfl
@[simp] theorem State.setHostReads_self : s.setHostReads s.hostReads = s := rfl

@[simp] theorem State.setSchedule_a (v : List (List HostInput)) : (s.setSchedule v).a = s.a := rfl
@[simp] theorem State.setSchedule_x (v : List (List HostInput)) : (s.setSchedule v).x = s.x := rfl
@[simp] theorem State.setSchedule_y (v : List (List HostInput)) : (s.setSchedule v).y = s.y := rfl
@[simp] theorem State.setSchedule_sp (v : List (List HostInput)) : (s.setSchedule v).sp = s.sp := rfl
@[simp] theorem State.setSchedule_p (v : List (List HostInput)) : (s.setSchedule v).p = s.p := rfl
@[simp] theorem State.setSchedule_pc (v : List (List HostInput)) : (s.setSchedule v).pc = s.pc := rfl
@[simp] theorem State.setSchedule_clockMode (v : List (List HostInput)) : (s.setSchedule v).clockMode = s.clockMode := rfl
@[simp] theorem State.setSchedule_pending (v : List (List HostInput)) : (s.setSchedule v).pending = s.pending := rfl
@[simp] theorem State.setSchedule_executed (v : List (List HostInput)) : (s.setSchedule v).executed = s.executed := rfl
@[simp] theorem State.setSchedule_fault (v : List (List HostInput)) : (s.setSchedule v).fault = s.fault := rfl
@[simp] theorem State.setSchedule_mem (v : List (List HostInput)) : (s.setSchedule v).mem = s.mem := rfl
@[simp] theorem State.setSchedule_portLog (v : List (List HostInput)) : (s.setSchedule v).portLog = s.portLog := rfl
@[simp] theorem State.setSchedule_hostReads (v : List (List HostInput)) : (s.setSchedule v).hostReads = s.hostReads := rfl
@[simp] theorem State.setSchedule_schedule (v : List (List HostInput)) : (s.setSchedule v).schedule = v := rfl
@[simp] theorem State.setSchedule_config (v : List (List HostInput)) : (s.setSchedule v).config = s.config := rfl
@[simp] theorem State.setSchedule_setSchedule (v w : List (List HostInput)) : (s.setSchedule v).setSchedule w = s.setSchedule w := rfl
@[simp] theorem State.setSchedule_self : s.setSchedule s.schedule = s := rfl

end

/-- States with the same fields are equal. -/
@[ext] theorem State.ext {s t : State} (h_a : s.a = t.a) (h_x : s.x = t.x) (h_y : s.y = t.y) (h_sp : s.sp = t.sp)
    (h_p : s.p = t.p) (h_pc : s.pc = t.pc) (h_clockMode : s.clockMode = t.clockMode) (h_pending : s.pending = t.pending) (h_executed : s.executed = t.executed)
    (h_fault : s.fault = t.fault) (h_mem : s.mem = t.mem) (h_portLog : s.portLog = t.portLog)
    (h_hostReads : s.hostReads = t.hostReads) (h_schedule : s.schedule = t.schedule) (h_config : s.config = t.config) :
    s = t := by
  cases s; cases t; simp_all

end Sys2Proof.Machine
end

