-- ==== Sys2Proof/Laws/Flags.lean ====
section
/-!
SUPPORT. What each flag reads after each flag write, and what `Norm` does to the state.
-/

namespace Sys2Proof.Machine

theorem Flag.bit_lt (f : Flag) : f.bit < 8 := by cases f <;> decide

theorem Flag.bit_inj {f g : Flag} (h : f.bit = g.bit) : f = g := by
  cases f <;> cases g <;> first | rfl | exact absurd h (by decide)

/-- A flag after a flag write. -/
@[simp] theorem getFlag_setFlag (p : Byte) (f g : Flag) (b : Bool) :
    getFlag (setFlag p f b) g = if g = f then b else getFlag p g := by
  have hg := g.bit_lt
  by_cases h : g = f
  · subst h
    cases b <;> simp [getFlag, setFlag, hg]
  · have hb : f.bit ≠ g.bit := fun hb => h (Flag.bit_inj hb).symm
    cases b <;> simp [getFlag, setFlag, hg, h, hb.symm]

/-- Two status bytes with the same flags are equal. -/
theorem status_ext {p q : Byte} (h : ∀ f, getFlag p f = getFlag q f) : p = q := by
  apply BitVec.eq_of_getLsbD_eq
  intro i hi
  have : ∃ f : Flag, f.bit = i := by
    match i, hi with
    | 0, _ => exact ⟨.C, rfl⟩
    | 1, _ => exact ⟨.Z, rfl⟩
    | 2, _ => exact ⟨.I, rfl⟩
    | 3, _ => exact ⟨.D, rfl⟩
    | 4, _ => exact ⟨.B, rfl⟩
    | 5, _ => exact ⟨.K, rfl⟩
    | 6, _ => exact ⟨.V, rfl⟩
    | 7, _ => exact ⟨.N, rfl⟩
  obtain ⟨f, rfl⟩ := this
  exact h f

@[simp] theorem getFlag_setNZ (v p : Byte) (g : Flag) :
    getFlag (setNZ v p) g =
      if g = .N then v.getLsbD 7 else if g = .Z then v == 0 else getFlag p g := by
  simp [setNZ]

/-- A pulled status byte: bit 5 is 1, every other bit as pulled. -/
@[simp] theorem getFlag_or_const (v : Byte) (g : Flag) :
    getFlag (v ||| 32#8) g = if g = .K then true else getFlag v g := by
  cases g <;> simp [getFlag, Flag.bit]

@[simp] theorem norm_fst (raw : Nat) (c : Bool) (s : State) :
    (norm raw c s).1 = BitVec.ofNat 8 raw := rfl

theorem norm_snd (raw : Nat) (c : Bool) (s : State) :
    (norm raw c s).2 = s.setP (setNZ (BitVec.ofNat 8 raw)
      (if c then setFlag s.p .C (raw.testBit 8) else s.p)) := rfl

theorem writeFlag_eq (s : State) (f : Flag) (b : Bool) :
    s.writeFlag f b = s.setP (setFlag s.p f b) := rfl

theorem normToA_eq (raw : Nat) (s : State) :
    normToA raw s = (s.setP (setNZ (BitVec.ofNat 8 raw) s.p)).setA (BitVec.ofNat 8 raw) := rfl

theorem normToX_eq (raw : Nat) (s : State) :
    normToX raw s = (s.setP (setNZ (BitVec.ofNat 8 raw) s.p)).setX (BitVec.ofNat 8 raw) := rfl

theorem normToY_eq (raw : Nat) (s : State) :
    normToY raw s = (s.setP (setNZ (BitVec.ofNat 8 raw) s.p)).setY (BitVec.ofNat 8 raw) := rfl

/-- Everything ADC and SBC write: `P` and `A`. -/
theorem addWithCarry_eq (w : Byte) (s : State) :
    ∃ p, addWithCarry w s =
        (s.setP p).setA (BitVec.ofNat 8 (s.a.toNat + w.toNat + flagNat s.p .C)) ∧
      ∀ f, f ≠ .N → f ≠ .V → f ≠ .Z → f ≠ .C → getFlag p f = getFlag s.p f := by
  refine ⟨_, rfl, fun f hN hV hZ hC => ?_⟩
  simp [writeFlag_eq, hN, hV, hZ, hC]

/-- Everything a comparison writes: N, Z and C. -/
theorem compareWith_eq (reg v : Byte) (s : State) :
    ∃ p, compareWith reg v s = s.setP p ∧
      ∀ f, f ≠ .N → f ≠ .Z → f ≠ .C → getFlag p f = getFlag s.p f := by
  refine ⟨_, rfl, fun f hN hZ hC => ?_⟩
  simp [hN, hZ, hC]

/-- Everything BIT writes: N, V and Z. -/
theorem bitTest_eq (v : Byte) (s : State) :
    ∃ p, bitTest v s = s.setP p ∧
      ∀ f, f ≠ .N → f ≠ .V → f ≠ .Z → getFlag p f = getFlag s.p f := by
  refine ⟨_, rfl, fun f hN hV hZ => ?_⟩
  simp [writeFlag_eq, hN, hV, hZ]

/-- A read-modify-write computation writes `P` alone, and of it N, Z and C alone. -/
def WritesNZC (f : Byte → State → Byte × State) : Prop :=
  ∀ v s, ∃ p, (f v s).2 = s.setP p ∧
    ∀ g, g ≠ .N → g ≠ .Z → g ≠ .C → getFlag p g = getFlag s.p g

theorem shiftLeft_writes : WritesNZC shiftLeft :=
  fun _ _ => ⟨_, rfl, fun g hN hZ hC => by simp [hN, hZ, hC]⟩

theorem shiftRight_writes : WritesNZC shiftRight :=
  fun _ _ => ⟨_, rfl, fun g hN hZ hC => by simp [norm_snd, hN, hZ, hC]⟩

theorem rotateLeft_writes : WritesNZC rotateLeft :=
  fun _ _ => ⟨_, rfl, fun g hN hZ hC => by simp [hN, hZ, hC]⟩

theorem rotateRight_writes : WritesNZC rotateRight :=
  fun _ _ => ⟨_, rfl, fun g hN hZ hC => by simp [norm_snd, hN, hZ, hC]⟩

theorem increment_writes : WritesNZC increment :=
  fun _ _ => ⟨_, rfl, fun g hN hZ _ => by simp [hN, hZ]⟩

theorem decrement_writes : WritesNZC decrement :=
  fun _ _ => ⟨_, rfl, fun g hN hZ _ => by simp [hN, hZ]⟩

end Sys2Proof.Machine
end

