-- ==== Sys2Proof/Laws/Memory.lean ====
section
/-!
SUPPORT. The host's RAM as a canonical list: what a read answers after a write, that a write keeps the
canonical form, and that canonical memories with equal bytes are equal.
-/

namespace Sys2Proof.Machine

@[simp] theorem Memory.read_nil (a : Nat) : Memory.read [] a = Memory.unlisted := rfl

theorem Memory.read_cons (k : Nat) (w : Byte) (m : Memory) (a : Nat) :
    Memory.read ((k, w) :: m) a = if k = a then w else Memory.read m a := rfl

theorem Memory.wfFrom_cons {lo k : Nat} {w : Byte} {m : Memory} :
    Memory.wfFrom lo ((k, w) :: m) = true ↔
      lo ≤ k ∧ k < 65536 ∧ w ≠ Memory.unlisted ∧ Memory.wfFrom (k + 1) m = true := by
  simp [Memory.wfFrom, and_assoc]

/-- The canonical form from an address upwards is one from every lower address upwards. -/
theorem Memory.wfFrom_mono {lo lo' : Nat} (h : lo' ≤ lo) :
    ∀ {m : Memory}, Memory.wfFrom lo m = true → Memory.wfFrom lo' m = true
  | [], _ => rfl
  | (k, w) :: m, hm => by
    obtain ⟨h1, h2⟩ := Memory.wfFrom_cons.mp hm
    exact Memory.wfFrom_cons.mpr ⟨h.trans h1, h2⟩

/-- Below its first address a canonical memory lists nothing. -/
theorem Memory.read_of_lt {a : Nat} :
    ∀ {lo : Nat} {m : Memory}, Memory.wfFrom lo m = true → a < lo → m.read a = Memory.unlisted
  | _, [], _, _ => rfl
  | lo, (k, w) :: m, hm, ha => by
    obtain ⟨h1, -, -, h4⟩ := Memory.wfFrom_cons.mp hm
    rw [Memory.read_cons, if_neg (by omega)]
    exact Memory.read_of_lt h4 (by omega)

theorem Memory.read_write_from (a b : Nat) (v : Byte) :
    ∀ {lo : Nat} {m : Memory}, Memory.wfFrom lo m = true →
      (m.write a v).read b = if b = a then v else m.read b
  | _, [], _ => by
    by_cases hv : v = Memory.unlisted
    · simp [Memory.write, hv]
    · simp [Memory.write, hv, Memory.read_cons, eq_comm]
  | lo, (k, w) :: m, hm => by
    obtain ⟨-, -, -, h4⟩ := Memory.wfFrom_cons.mp hm
    have ih := Memory.read_write_from a b v h4
    by_cases hak : a < k
    · by_cases hv : v = Memory.unlisted
      · have hr : Memory.read m a = Memory.unlisted := Memory.read_of_lt h4 (by omega)
        by_cases hb : b = a
        · subst hb; simp [Memory.write, hak, hv, Memory.read_cons, hr, show k ≠ b by omega]
        · simp [Memory.write, hak, hv, hb]
      · simp [Memory.write, hak, hv, Memory.read_cons, eq_comm]
    · by_cases hk : a = k
      · subst hk
        by_cases hv : v = Memory.unlisted
        · by_cases hb : b = a
          · subst hb; simp [Memory.write, hv, Memory.read_of_lt h4 (show b < b + 1 by omega)]
          · simp [Memory.write, hv, hb, Memory.read_cons, show a ≠ b from fun h => hb h.symm]
        · by_cases hb : b = a
          · simp [Memory.write, hv, Memory.read_cons, hb]
          · simp [Memory.write, hv, Memory.read_cons, hb, show a ≠ b from fun h => hb h.symm]
      · by_cases hb : b = k
        · subst hb; simp [Memory.write, hak, hk, Memory.read_cons, show b ≠ a by omega]
        · simp [Memory.write, hak, hk, Memory.read_cons, ih, show k ≠ b from fun h => hb h.symm]

/-- A read after a write: the byte written at its address, the old byte everywhere else. -/
theorem Memory.read_write {m : Memory} (hm : m.wf = true) (a b : Nat) (v : Byte) :
    (m.write a v).read b = if b = a then v else m.read b :=
  Memory.read_write_from a b v hm

theorem Memory.wfFrom_write {a : Nat} (v : Byte) (ha : a < 65536) :
    ∀ {lo : Nat} {m : Memory}, Memory.wfFrom lo m = true → lo ≤ a →
      Memory.wfFrom lo (m.write a v) = true
  | lo, [], _, hlo => by
    by_cases hv : v = Memory.unlisted
    · simp [Memory.write, hv, Memory.wfFrom]
    · simp [Memory.write, hv, Memory.wfFrom, hlo, ha]
  | lo, (k, w) :: m, hm, hlo => by
    obtain ⟨h1, h2, h3, h4⟩ := Memory.wfFrom_cons.mp hm
    by_cases hak : a < k
    · by_cases hv : v = Memory.unlisted
      · simpa [Memory.write, hak, hv] using hm
      · simp only [Memory.write, hak, hv, if_true, if_false]
        exact Memory.wfFrom_cons.mpr ⟨hlo, ha, hv, Memory.wfFrom_cons.mpr ⟨hak, h2, h3, h4⟩⟩
    · by_cases hk : a = k
      · by_cases hv : v = Memory.unlisted
        · simpa [Memory.write, hk, hv] using Memory.wfFrom_mono (by omega) h4
        · simp only [Memory.write, hk, hv, if_true, if_false, lt_irrefl]
          exact Memory.wfFrom_cons.mpr ⟨h1, h2, hv, h4⟩
      · simp only [Memory.write, hak, hk, if_false]
        exact Memory.wfFrom_cons.mpr ⟨h1, h2, h3, Memory.wfFrom_write v ha h4 (by omega)⟩

/-- A write keeps the canonical form. -/
theorem Memory.wf_write {m : Memory} (hm : m.wf = true) (a : Addr) (v : Byte) :
    (m.write a.toNat v).wf = true :=
  Memory.wfFrom_write v a.isLt hm (Nat.zero_le _)

theorem Memory.ext_from :
    ∀ {lo : Nat} {m m' : Memory}, Memory.wfFrom lo m = true → Memory.wfFrom lo m' = true →
      (∀ a, m.read a = m'.read a) → m = m'
  | _, [], [], _, _, _ => rfl
  | lo, [], (k, w) :: m', _, hm', h => by
    obtain ⟨-, -, h3, -⟩ := Memory.wfFrom_cons.mp hm'
    exact absurd (by simpa [Memory.read_cons] using (h k).symm) h3
  | lo, (k, w) :: m, [], hm, _, h => by
    obtain ⟨-, -, h3, -⟩ := Memory.wfFrom_cons.mp hm
    exact absurd (by simpa [Memory.read_cons] using h k) h3
  | lo, (k, w) :: m, (k', w') :: m', hm, hm', h => by
    obtain ⟨-, -, h3, h4⟩ := Memory.wfFrom_cons.mp hm
    obtain ⟨-, -, h3', h4'⟩ := Memory.wfFrom_cons.mp hm'
    have hk : k = k' := by
      rcases Nat.lt_trichotomy k k' with hlt | heq | hgt
      · have := h k
        rw [Memory.read_cons, if_pos rfl, Memory.read_cons, if_neg (by omega),
          Memory.read_of_lt h4' (by omega)] at this
        exact absurd this h3
      · exact heq
      · have := h k'
        rw [Memory.read_cons, if_neg (by omega), Memory.read_cons, if_pos rfl,
          Memory.read_of_lt h4 (by omega)] at this
        exact absurd this.symm h3'
    subst hk
    have hw : w = w' := by simpa [Memory.read_cons] using h k
    subst hw
    have : m = m' := by
      refine Memory.ext_from h4 h4' fun a => ?_
      by_cases hka : k = a
      · subst hka
        rw [Memory.read_of_lt h4 (by omega), Memory.read_of_lt h4' (by omega)]
      · simpa [Memory.read_cons, hka] using h a
    rw [this]

/-- Canonical memories that read alike everywhere are equal. -/
theorem Memory.ext_read {m m' : Memory} (hm : m.wf = true) (hm' : m'.wf = true)
    (h : ∀ a, m.read a = m'.read a) : m = m' :=
  Memory.ext_from hm hm' h

end Sys2Proof.Machine
end

