-- ==== Sys2Proof/Laws/Ops.lean ====
section
/-!
SUPPORT. What each port, stack and interrupt operation can do to the state, said once: the fields it keeps,
and for the fields it writes their new value.
-/

namespace Sys2Proof.Machine

section
variable (s : State)

/-! ### One port call -/

@[simp] theorem State.setA_peek (v : Byte) (b : Addr) : (s.setA v).peek b = s.peek b := rfl
@[simp] theorem State.setX_peek (v : Byte) (b : Addr) : (s.setX v).peek b = s.peek b := rfl
@[simp] theorem State.setY_peek (v : Byte) (b : Addr) : (s.setY v).peek b = s.peek b := rfl
@[simp] theorem State.setSp_peek (v : Byte) (b : Addr) : (s.setSp v).peek b = s.peek b := rfl
@[simp] theorem State.setP_peek (v : Byte) (b : Addr) : (s.setP v).peek b = s.peek b := rfl
@[simp] theorem State.setPc_peek (v : Addr) (b : Addr) : (s.setPc v).peek b = s.peek b := rfl
@[simp] theorem State.setClockMode_peek (v : ClockMode) (b : Addr) : (s.setClockMode v).peek b = s.peek b := rfl
@[simp] theorem State.setPending_peek (v : PendingInterrupt) (b : Addr) : (s.setPending v).peek b = s.peek b := rfl
@[simp] theorem State.setExecuted_peek (v : Nat) (b : Addr) : (s.setExecuted v).peek b = s.peek b := rfl
@[simp] theorem State.setFault_peek (v : Option Fault) (b : Addr) : (s.setFault v).peek b = s.peek b := rfl
@[simp] theorem State.setPortLog_peek (v : List PortCall) (b : Addr) : (s.setPortLog v).peek b = s.peek b := rfl
@[simp] theorem State.setHostReads_peek (v : Nat) (b : Addr) : (s.setHostReads v).peek b = s.peek b := rfl
@[simp] theorem State.setSchedule_peek (v : List (List HostInput)) (b : Addr) : (s.setSchedule v).peek b = s.peek b := rfl
@[simp] theorem logCall_peek (c : PortCall) (b : Addr) : (s.logCall c).peek b = s.peek b := rfl

@[simp] theorem logCall_a (c : PortCall) : (s.logCall c).a = s.a := rfl
@[simp] theorem logCall_x (c : PortCall) : (s.logCall c).x = s.x := rfl
@[simp] theorem logCall_y (c : PortCall) : (s.logCall c).y = s.y := rfl
@[simp] theorem logCall_sp (c : PortCall) : (s.logCall c).sp = s.sp := rfl
@[simp] theorem logCall_p (c : PortCall) : (s.logCall c).p = s.p := rfl
@[simp] theorem logCall_pc (c : PortCall) : (s.logCall c).pc = s.pc := rfl
@[simp] theorem logCall_clockMode (c : PortCall) : (s.logCall c).clockMode = s.clockMode := rfl
@[simp] theorem logCall_pending (c : PortCall) : (s.logCall c).pending = s.pending := rfl
@[simp] theorem logCall_executed (c : PortCall) : (s.logCall c).executed = s.executed := rfl
@[simp] theorem logCall_fault (c : PortCall) : (s.logCall c).fault = s.fault := rfl
@[simp] theorem logCall_mem (c : PortCall) : (s.logCall c).mem = s.mem := rfl
@[simp] theorem logCall_hostReads (c : PortCall) : (s.logCall c).hostReads = s.hostReads := rfl
@[simp] theorem logCall_schedule (c : PortCall) : (s.logCall c).schedule = s.schedule := rfl
@[simp] theorem logCall_config (c : PortCall) : (s.logCall c).config = s.config := rfl
@[simp] theorem logCall_portLog (c : PortCall) : (s.logCall c).portLog = c :: s.portLog := rfl

@[simp] theorem memRead_a (a : Addr) : (memRead a s).2.a = s.a := by unfold memRead; split <;> rfl
@[simp] theorem memRead_x (a : Addr) : (memRead a s).2.x = s.x := by unfold memRead; split <;> rfl
@[simp] theorem memRead_y (a : Addr) : (memRead a s).2.y = s.y := by unfold memRead; split <;> rfl
@[simp] theorem memRead_sp (a : Addr) : (memRead a s).2.sp = s.sp := by unfold memRead; split <;> rfl
@[simp] theorem memRead_p (a : Addr) : (memRead a s).2.p = s.p := by unfold memRead; split <;> rfl
@[simp] theorem memRead_pc (a : Addr) : (memRead a s).2.pc = s.pc := by unfold memRead; split <;> rfl
@[simp] theorem memRead_clockMode (a : Addr) : (memRead a s).2.clockMode = s.clockMode := by unfold memRead; split <;> rfl
@[simp] theorem memRead_pending (a : Addr) : (memRead a s).2.pending = s.pending := by unfold memRead; split <;> rfl
@[simp] theorem memRead_executed (a : Addr) : (memRead a s).2.executed = s.executed := by unfold memRead; split <;> rfl
@[simp] theorem memRead_fault (a : Addr) : (memRead a s).2.fault = s.fault := by unfold memRead; split <;> rfl
@[simp] theorem memRead_mem (a : Addr) : (memRead a s).2.mem = s.mem := by unfold memRead; split <;> rfl
@[simp] theorem memRead_schedule (a : Addr) : (memRead a s).2.schedule = s.schedule := by unfold memRead; split <;> rfl
@[simp] theorem memRead_config (a : Addr) : (memRead a s).2.config = s.config := by unfold memRead; split <;> rfl

/-- A read adds one call to the log, with the byte it answers. -/
@[simp] theorem memRead_portLog (a : Addr) :
    (memRead a s).2.portLog = .read a (memRead a s).1 :: s.portLog := by
  unfold memRead; split <;> rfl

@[simp] theorem memRead_peek (a b : Addr) : (memRead a s).2.peek b = s.peek b := by
  simp [State.peek]

/-- Plain RAM answers what it holds. -/
theorem memRead_fst_plain {a : Addr} (h : isDevice s.config a = false) :
    (memRead a s).1 = s.peek a := by
  simp [memRead, h]

/-- A read of plain RAM changes the log alone. -/
theorem memRead_plain {a : Addr} (h : isDevice s.config a = false) :
    memRead a s = (s.peek a, s.logCall (.read a (s.peek a))) := by
  simp [memRead, h]

/-! A read does not look at the registers, so writing one before or after it is the same. -/

theorem memRead_setA (a : Addr) (v : Byte) :
    memRead a (s.setA v) = ((memRead a s).1, (memRead a s).2.setA v) := by
  cases h : isDevice s.config a
  · simp only [memRead, State.setA_config, h]; rfl
  · simp only [memRead, State.setA_config, h]; rfl

theorem memRead_setX (a : Addr) (v : Byte) :
    memRead a (s.setX v) = ((memRead a s).1, (memRead a s).2.setX v) := by
  cases h : isDevice s.config a
  · simp only [memRead, State.setX_config, h]; rfl
  · simp only [memRead, State.setX_config, h]; rfl

theorem memRead_setY (a : Addr) (v : Byte) :
    memRead a (s.setY v) = ((memRead a s).1, (memRead a s).2.setY v) := by
  cases h : isDevice s.config a
  · simp only [memRead, State.setY_config, h]; rfl
  · simp only [memRead, State.setY_config, h]; rfl

theorem memRead_setSp (a : Addr) (v : Byte) :
    memRead a (s.setSp v) = ((memRead a s).1, (memRead a s).2.setSp v) := by
  cases h : isDevice s.config a
  · simp only [memRead, State.setSp_config, h]; rfl
  · simp only [memRead, State.setSp_config, h]; rfl

theorem memRead_setP (a : Addr) (v : Byte) :
    memRead a (s.setP v) = ((memRead a s).1, (memRead a s).2.setP v) := by
  cases h : isDevice s.config a
  · simp only [memRead, State.setP_config, h]; rfl
  · simp only [memRead, State.setP_config, h]; rfl

theorem memRead_setPc (a : Addr) (v : Addr) :
    memRead a (s.setPc v) = ((memRead a s).1, (memRead a s).2.setPc v) := by
  cases h : isDevice s.config a
  · simp only [memRead, State.setPc_config, h]; rfl
  · simp only [memRead, State.setPc_config, h]; rfl

@[simp] theorem memWrite_a (a : Addr) (v : Byte) : (memWrite a v s).a = s.a := by unfold memWrite; split <;> rfl
@[simp] theorem memWrite_x (a : Addr) (v : Byte) : (memWrite a v s).x = s.x := by unfold memWrite; split <;> rfl
@[simp] theorem memWrite_y (a : Addr) (v : Byte) : (memWrite a v s).y = s.y := by unfold memWrite; split <;> rfl
@[simp] theorem memWrite_sp (a : Addr) (v : Byte) : (memWrite a v s).sp = s.sp := by unfold memWrite; split <;> rfl
@[simp] theorem memWrite_p (a : Addr) (v : Byte) : (memWrite a v s).p = s.p := by unfold memWrite; split <;> rfl
@[simp] theorem memWrite_pc (a : Addr) (v : Byte) : (memWrite a v s).pc = s.pc := by unfold memWrite; split <;> rfl
@[simp] theorem memWrite_clockMode (a : Addr) (v : Byte) : (memWrite a v s).clockMode = s.clockMode := by unfold memWrite; split <;> rfl
@[simp] theorem memWrite_pending (a : Addr) (v : Byte) : (memWrite a v s).pending = s.pending := by unfold memWrite; split <;> rfl
@[simp] theorem memWrite_executed (a : Addr) (v : Byte) : (memWrite a v s).executed = s.executed := by unfold memWrite; split <;> rfl
@[simp] theorem memWrite_fault (a : Addr) (v : Byte) : (memWrite a v s).fault = s.fault := by unfold memWrite; split <;> rfl
@[simp] theorem memWrite_hostReads (a : Addr) (v : Byte) : (memWrite a v s).hostReads = s.hostReads := by unfold memWrite; split <;> rfl
@[simp] theorem memWrite_schedule (a : Addr) (v : Byte) : (memWrite a v s).schedule = s.schedule := by unfold memWrite; split <;> rfl
@[simp] theorem memWrite_config (a : Addr) (v : Byte) : (memWrite a v s).config = s.config := by unfold memWrite; split <;> rfl

/-- A write adds one call to the log. -/
@[simp] theorem memWrite_portLog (a : Addr) (v : Byte) :
    (memWrite a v s).portLog = .write a v :: s.portLog := by
  unfold memWrite; split <;> rfl

theorem memWrite_mem (a : Addr) (v : Byte) :
    (memWrite a v s).mem = if isDevice s.config a then s.mem else s.mem.write a.toNat v := by
  unfold memWrite; split <;> simp_all

/-- RAM after a write: the byte written at its address if that is plain RAM, the old byte elsewhere. -/
theorem memWrite_peek (hm : s.mem.wf = true) (a b : Addr) (v : Byte) :
    (memWrite a v s).peek b = if b = a ∧ isDevice s.config a = false then v else s.peek b := by
  unfold State.peek
  rw [memWrite_mem]
  cases h : isDevice s.config a
  · simp [Memory.read_write hm, BitVec.toNat_inj]
  · simp

@[simp] theorem memWrite_wf (hm : s.mem.wf = true) (a : Addr) (v : Byte) :
    (memWrite a v s).mem.wf = true := by
  rw [memWrite_mem]
  split
  · exact hm
  · exact Memory.wf_write hm a v

/-! ### Two port calls -/

@[simp] theorem memRead16_a (a : Addr) : (memRead16 a s).2.a = s.a := by simp [memRead16]
@[simp] theorem memRead16_x (a : Addr) : (memRead16 a s).2.x = s.x := by simp [memRead16]
@[simp] theorem memRead16_y (a : Addr) : (memRead16 a s).2.y = s.y := by simp [memRead16]
@[simp] theorem memRead16_sp (a : Addr) : (memRead16 a s).2.sp = s.sp := by simp [memRead16]
@[simp] theorem memRead16_p (a : Addr) : (memRead16 a s).2.p = s.p := by simp [memRead16]
@[simp] theorem memRead16_pc (a : Addr) : (memRead16 a s).2.pc = s.pc := by simp [memRead16]
@[simp] theorem memRead16_clockMode (a : Addr) : (memRead16 a s).2.clockMode = s.clockMode := by simp [memRead16]
@[simp] theorem memRead16_pending (a : Addr) : (memRead16 a s).2.pending = s.pending := by simp [memRead16]
@[simp] theorem memRead16_executed (a : Addr) : (memRead16 a s).2.executed = s.executed := by simp [memRead16]
@[simp] theorem memRead16_fault (a : Addr) : (memRead16 a s).2.fault = s.fault := by simp [memRead16]
@[simp] theorem memRead16_mem (a : Addr) : (memRead16 a s).2.mem = s.mem := by simp [memRead16]
@[simp] theorem memRead16_schedule (a : Addr) : (memRead16 a s).2.schedule = s.schedule := by simp [memRead16]
@[simp] theorem memRead16_config (a : Addr) : (memRead16 a s).2.config = s.config := by simp [memRead16]

@[simp] theorem memRead16_peek (a b : Addr) : (memRead16 a s).2.peek b = s.peek b := by
  simp [State.peek]

/-- A 16-bit read adds two calls: the low byte's, then the high byte's. -/
theorem memRead16_portLog (a : Addr) :
    (memRead16 a s).2.portLog =
      .read (a + 1) (memRead (a + 1) (memRead a s).2).1 :: .read a (memRead a s).1 :: s.portLog := by
  simp [memRead16]

/-- A 16-bit read of plain RAM. -/
theorem memRead16_fst_plain {a : Addr} (h0 : isDevice s.config a = false)
    (h1 : isDevice s.config (a + 1) = false) :
    (memRead16 a s).1 = wordOf (s.peek (a + 1)) (s.peek a) := by
  simp only [memRead16]
  rw [memRead_fst_plain _ h0, memRead_fst_plain _ (by rw [memRead_config]; exact h1), memRead_peek]

/-! ### The stack -/

@[simp] theorem push8_a (v : Byte) : (push8 v s).a = s.a := by simp [push8]
@[simp] theorem push8_x (v : Byte) : (push8 v s).x = s.x := by simp [push8]
@[simp] theorem push8_y (v : Byte) : (push8 v s).y = s.y := by simp [push8]
@[simp] theorem push8_p (v : Byte) : (push8 v s).p = s.p := by simp [push8]
@[simp] theorem push8_pc (v : Byte) : (push8 v s).pc = s.pc := by simp [push8]
@[simp] theorem push8_clockMode (v : Byte) : (push8 v s).clockMode = s.clockMode := by simp [push8]
@[simp] theorem push8_pending (v : Byte) : (push8 v s).pending = s.pending := by simp [push8]
@[simp] theorem push8_executed (v : Byte) : (push8 v s).executed = s.executed := by simp [push8]
@[simp] theorem push8_fault (v : Byte) : (push8 v s).fault = s.fault := by simp [push8]
@[simp] theorem push8_hostReads (v : Byte) : (push8 v s).hostReads = s.hostReads := by simp [push8]
@[simp] theorem push8_schedule (v : Byte) : (push8 v s).schedule = s.schedule := by simp [push8]
@[simp] theorem push8_config (v : Byte) : (push8 v s).config = s.config := by simp [push8]
@[simp] theorem push8_sp (v : Byte) : (push8 v s).sp = s.sp - 1 := rfl

@[simp] theorem push8_portLog (v : Byte) :
    (push8 v s).portLog = .write (stackAddr s.sp) v :: s.portLog := by
  simp [push8]

theorem push8_peek (hm : s.mem.wf = true) (v : Byte) (b : Addr) :
    (push8 v s).peek b =
      if b = stackAddr s.sp ∧ isDevice s.config (stackAddr s.sp) = false then v else s.peek b :=
  memWrite_peek s hm (stackAddr s.sp) b v

@[simp] theorem push8_wf (hm : s.mem.wf = true) (v : Byte) : (push8 v s).mem.wf = true := by
  simp [push8, hm]

@[simp] theorem push16_a (v : Addr) : (push16 v s).a = s.a := by simp [push16]
@[simp] theorem push16_x (v : Addr) : (push16 v s).x = s.x := by simp [push16]
@[simp] theorem push16_y (v : Addr) : (push16 v s).y = s.y := by simp [push16]
@[simp] theorem push16_p (v : Addr) : (push16 v s).p = s.p := by simp [push16]
@[simp] theorem push16_pc (v : Addr) : (push16 v s).pc = s.pc := by simp [push16]
@[simp] theorem push16_clockMode (v : Addr) : (push16 v s).clockMode = s.clockMode := by simp [push16]
@[simp] theorem push16_pending (v : Addr) : (push16 v s).pending = s.pending := by simp [push16]
@[simp] theorem push16_executed (v : Addr) : (push16 v s).executed = s.executed := by simp [push16]
@[simp] theorem push16_fault (v : Addr) : (push16 v s).fault = s.fault := by simp [push16]
@[simp] theorem push16_hostReads (v : Addr) : (push16 v s).hostReads = s.hostReads := by simp [push16]
@[simp] theorem push16_schedule (v : Addr) : (push16 v s).schedule = s.schedule := by simp [push16]
@[simp] theorem push16_config (v : Addr) : (push16 v s).config = s.config := by simp [push16]
@[simp] theorem push16_sp (v : Addr) : (push16 v s).sp = s.sp - 1 - 1 := rfl

@[simp] theorem push16_portLog (v : Addr) :
    (push16 v s).portLog =
      .write (stackAddr (s.sp - 1)) (loByte v) :: .write (stackAddr s.sp) (hiByte v) :: s.portLog := by
  simp [push16]

@[simp] theorem push16_wf (hm : s.mem.wf = true) (v : Addr) : (push16 v s).mem.wf = true := by
  simp [push16, hm]

@[simp] theorem pull8_a  : (pull8 s).2.a = s.a := by simp [pull8]
@[simp] theorem pull8_x  : (pull8 s).2.x = s.x := by simp [pull8]
@[simp] theorem pull8_y  : (pull8 s).2.y = s.y := by simp [pull8]
@[simp] theorem pull8_p  : (pull8 s).2.p = s.p := by simp [pull8]
@[simp] theorem pull8_pc  : (pull8 s).2.pc = s.pc := by simp [pull8]
@[simp] theorem pull8_clockMode  : (pull8 s).2.clockMode = s.clockMode := by simp [pull8]
@[simp] theorem pull8_pending  : (pull8 s).2.pending = s.pending := by simp [pull8]
@[simp] theorem pull8_executed  : (pull8 s).2.executed = s.executed := by simp [pull8]
@[simp] theorem pull8_fault  : (pull8 s).2.fault = s.fault := by simp [pull8]
@[simp] theorem pull8_mem  : (pull8 s).2.mem = s.mem := by simp [pull8]
@[simp] theorem pull8_schedule  : (pull8 s).2.schedule = s.schedule := by simp [pull8]
@[simp] theorem pull8_config  : (pull8 s).2.config = s.config := by simp [pull8]
@[simp] theorem pull8_sp : (pull8 s).2.sp = s.sp + 1 := by simp [pull8]

@[simp] theorem pull8_portLog :
    (pull8 s).2.portLog = .read (stackAddr (s.sp + 1)) (pull8 s).1 :: s.portLog := by
  simp [pull8]

@[simp] theorem pull16_a  : (pull16 s).2.a = s.a := by simp [pull16]
@[simp] theorem pull16_x  : (pull16 s).2.x = s.x := by simp [pull16]
@[simp] theorem pull16_y  : (pull16 s).2.y = s.y := by simp [pull16]
@[simp] theorem pull16_p  : (pull16 s).2.p = s.p := by simp [pull16]
@[simp] theorem pull16_pc  : (pull16 s).2.pc = s.pc := by simp [pull16]
@[simp] theorem pull16_clockMode  : (pull16 s).2.clockMode = s.clockMode := by simp [pull16]
@[simp] theorem pull16_pending  : (pull16 s).2.pending = s.pending := by simp [pull16]
@[simp] theorem pull16_executed  : (pull16 s).2.executed = s.executed := by simp [pull16]
@[simp] theorem pull16_fault  : (pull16 s).2.fault = s.fault := by simp [pull16]
@[simp] theorem pull16_mem  : (pull16 s).2.mem = s.mem := by simp [pull16]
@[simp] theorem pull16_schedule  : (pull16 s).2.schedule = s.schedule := by simp [pull16]
@[simp] theorem pull16_config  : (pull16 s).2.config = s.config := by simp [pull16]
@[simp] theorem pull16_sp : (pull16 s).2.sp = s.sp + 1 + 1 := by simp [pull16]

theorem pull16_portLog :
    (pull16 s).2.portLog =
      .read (stackAddr (s.sp + 1 + 1)) (pull8 (pull8 s).2).1 ::
        .read (stackAddr (s.sp + 1)) (pull8 s).1 :: s.portLog := by
  simp [pull16]

/-- Every slot of the stack lies in page 1. -/
theorem stackAddr_toNat (v : Byte) : (stackAddr v).toNat = 256 + v.toNat := by
  have := v.isLt
  simp [stackAddr, zext16]
  omega

theorem stackAddr_inj {v w : Byte} (h : stackAddr v = stackAddr w) : v = w := by
  have := congrArg BitVec.toNat h
  rw [stackAddr_toNat, stackAddr_toNat] at this
  exact BitVec.eq_of_toNat_eq (by omega)

/-! ### Interrupts -/

@[simp] theorem jumpThroughVector_a (v : Addr) : (jumpThroughVector v s).a = s.a := by simp [jumpThroughVector]
@[simp] theorem jumpThroughVector_x (v : Addr) : (jumpThroughVector v s).x = s.x := by simp [jumpThroughVector]
@[simp] theorem jumpThroughVector_y (v : Addr) : (jumpThroughVector v s).y = s.y := by simp [jumpThroughVector]
@[simp] theorem jumpThroughVector_sp (v : Addr) : (jumpThroughVector v s).sp = s.sp := by simp [jumpThroughVector]
@[simp] theorem jumpThroughVector_p (v : Addr) : (jumpThroughVector v s).p = s.p := by simp [jumpThroughVector]
@[simp] theorem jumpThroughVector_clockMode (v : Addr) : (jumpThroughVector v s).clockMode = s.clockMode := by simp [jumpThroughVector]
@[simp] theorem jumpThroughVector_executed (v : Addr) : (jumpThroughVector v s).executed = s.executed := by simp [jumpThroughVector]
@[simp] theorem jumpThroughVector_fault (v : Addr) : (jumpThroughVector v s).fault = s.fault := by simp [jumpThroughVector]
@[simp] theorem jumpThroughVector_mem (v : Addr) : (jumpThroughVector v s).mem = s.mem := by simp [jumpThroughVector]
@[simp] theorem jumpThroughVector_schedule (v : Addr) : (jumpThroughVector v s).schedule = s.schedule := by simp [jumpThroughVector]
@[simp] theorem jumpThroughVector_config (v : Addr) : (jumpThroughVector v s).config = s.config := by simp [jumpThroughVector]
@[simp] theorem jumpThroughVector_pending (v : Addr) :
    (jumpThroughVector v s).pending = .none := rfl

theorem jumpThroughVector_pc (v : Addr) : (jumpThroughVector v s).pc = (memRead16 v s).1 := rfl

@[simp] theorem enterInterrupt_x (v : Addr) : (enterInterrupt v s).x = s.x := by simp only [enterInterrupt]; split <;> simp [writeFlag_eq]
@[simp] theorem enterInterrupt_y (v : Addr) : (enterInterrupt v s).y = s.y := by simp only [enterInterrupt]; split <;> simp [writeFlag_eq]
@[simp] theorem enterInterrupt_a (v : Addr) : (enterInterrupt v s).a = s.a := by simp only [enterInterrupt]; split <;> simp [writeFlag_eq]
@[simp] theorem enterInterrupt_clockMode (v : Addr) : (enterInterrupt v s).clockMode = s.clockMode := by simp only [enterInterrupt]; split <;> simp [writeFlag_eq]
@[simp] theorem enterInterrupt_executed (v : Addr) : (enterInterrupt v s).executed = s.executed := by simp only [enterInterrupt]; split <;> simp [writeFlag_eq]
@[simp] theorem enterInterrupt_fault (v : Addr) : (enterInterrupt v s).fault = s.fault := by simp only [enterInterrupt]; split <;> simp [writeFlag_eq]
@[simp] theorem enterInterrupt_schedule (v : Addr) : (enterInterrupt v s).schedule = s.schedule := by simp only [enterInterrupt]; split <;> simp [writeFlag_eq]
@[simp] theorem enterInterrupt_config (v : Addr) : (enterInterrupt v s).config = s.config := by simp only [enterInterrupt]; split <;> simp [writeFlag_eq]
@[simp] theorem enterInterrupt_sp (v : Addr) : (enterInterrupt v s).sp = s.sp - 1 - 1 - 1 := by
  simp only [enterInterrupt]; split <;> simp [writeFlag_eq]

@[simp] theorem enterInterrupt_pending (v : Addr) : (enterInterrupt v s).pending = .none := rfl

/-- Taking an interrupt changes no flag but I, and that only with `ENTRY_SETS_I`. -/
theorem enterInterrupt_p (v : Addr) :
    (enterInterrupt v s).p = if s.config.entrySetsI then setFlag s.p .I true else s.p := by
  simp only [enterInterrupt, jumpThroughVector_p, push8_config, push16_config]
  split <;> simp [writeFlag_eq]

theorem enterInterrupt_wf (hm : s.mem.wf = true) (v : Addr) : (enterInterrupt v s).mem.wf = true := by
  simp only [enterInterrupt]; split <;> simp [writeFlag_eq, hm]

@[simp] theorem interruptCheck_x  : (interruptCheck s).x = s.x := by unfold interruptCheck; split <;> (try split) <;> simp [serviceReset, serviceNmi, serviceIrq]
@[simp] theorem interruptCheck_y  : (interruptCheck s).y = s.y := by unfold interruptCheck; split <;> (try split) <;> simp [serviceReset, serviceNmi, serviceIrq]
@[simp] theorem interruptCheck_a  : (interruptCheck s).a = s.a := by unfold interruptCheck; split <;> (try split) <;> simp [serviceReset, serviceNmi, serviceIrq]
@[simp] theorem interruptCheck_clockMode  : (interruptCheck s).clockMode = s.clockMode := by unfold interruptCheck; split <;> (try split) <;> simp [serviceReset, serviceNmi, serviceIrq]
@[simp] theorem interruptCheck_executed  : (interruptCheck s).executed = s.executed := by unfold interruptCheck; split <;> (try split) <;> simp [serviceReset, serviceNmi, serviceIrq]
@[simp] theorem interruptCheck_fault  : (interruptCheck s).fault = s.fault := by unfold interruptCheck; split <;> (try split) <;> simp [serviceReset, serviceNmi, serviceIrq]
@[simp] theorem interruptCheck_schedule  : (interruptCheck s).schedule = s.schedule := by unfold interruptCheck; split <;> (try split) <;> simp [serviceReset, serviceNmi, serviceIrq]
@[simp] theorem interruptCheck_config  : (interruptCheck s).config = s.config := by unfold interruptCheck; split <;> (try split) <;> simp [serviceReset, serviceNmi, serviceIrq]

/-- An interrupt check ends with the latch empty, or with an `irq` that is masked. -/
theorem interruptCheck_pending :
    (interruptCheck s).pending = .none ∨
      (interruptCheck s = s ∧ s.pending = .irq ∧ getFlag s.p .I = true) := by
  unfold interruptCheck
  split
  · exact .inl ‹_›
  · exact .inl rfl
  · exact .inl rfl
  · split
    · exact .inr ⟨rfl, ‹_›, ‹_›⟩
    · exact .inl rfl

/-- An interrupt check changes no flag but I. -/
theorem interruptCheck_getFlag {f : Flag} (hf : f ≠ .I) :
    getFlag (interruptCheck s).p f = getFlag s.p f := by
  unfold interruptCheck
  repeat' split
  all_goals simp [serviceReset, serviceNmi, serviceIrq, enterInterrupt_p]
  all_goals split <;> simp [hf]

theorem interruptCheck_wf (hm : s.mem.wf = true) : (interruptCheck s).mem.wf = true := by
  unfold interruptCheck
  repeat' split
  all_goals simp [serviceReset, serviceNmi, serviceIrq, enterInterrupt_wf, hm]

@[simp] theorem pullStatus_a  : (pullStatus s).a = s.a := by simp [pullStatus]
@[simp] theorem pullStatus_x  : (pullStatus s).x = s.x := by simp [pullStatus]
@[simp] theorem pullStatus_y  : (pullStatus s).y = s.y := by simp [pullStatus]
@[simp] theorem pullStatus_pc  : (pullStatus s).pc = s.pc := by simp [pullStatus]
@[simp] theorem pullStatus_clockMode  : (pullStatus s).clockMode = s.clockMode := by simp [pullStatus]
@[simp] theorem pullStatus_pending  : (pullStatus s).pending = s.pending := by simp [pullStatus]
@[simp] theorem pullStatus_executed  : (pullStatus s).executed = s.executed := by simp [pullStatus]
@[simp] theorem pullStatus_fault  : (pullStatus s).fault = s.fault := by simp [pullStatus]
@[simp] theorem pullStatus_mem  : (pullStatus s).mem = s.mem := by simp [pullStatus]
@[simp] theorem pullStatus_schedule  : (pullStatus s).schedule = s.schedule := by simp [pullStatus]
@[simp] theorem pullStatus_config  : (pullStatus s).config = s.config := by simp [pullStatus]
@[simp] theorem pullStatus_sp : (pullStatus s).sp = s.sp + 1 := by simp [pullStatus]

@[simp] theorem pullStatus_p : (pullStatus s).p = (pull8 s).1 ||| 0x20 := rfl

@[simp] theorem returnFromInterrupt_a  : (returnFromInterrupt s).a = s.a := by simp [returnFromInterrupt]
@[simp] theorem returnFromInterrupt_x  : (returnFromInterrupt s).x = s.x := by simp [returnFromInterrupt]
@[simp] theorem returnFromInterrupt_y  : (returnFromInterrupt s).y = s.y := by simp [returnFromInterrupt]
@[simp] theorem returnFromInterrupt_clockMode  : (returnFromInterrupt s).clockMode = s.clockMode := by simp [returnFromInterrupt]
@[simp] theorem returnFromInterrupt_pending  : (returnFromInterrupt s).pending = s.pending := by simp [returnFromInterrupt]
@[simp] theorem returnFromInterrupt_executed  : (returnFromInterrupt s).executed = s.executed := by simp [returnFromInterrupt]
@[simp] theorem returnFromInterrupt_fault  : (returnFromInterrupt s).fault = s.fault := by simp [returnFromInterrupt]
@[simp] theorem returnFromInterrupt_mem  : (returnFromInterrupt s).mem = s.mem := by simp [returnFromInterrupt]
@[simp] theorem returnFromInterrupt_schedule  : (returnFromInterrupt s).schedule = s.schedule := by simp [returnFromInterrupt]
@[simp] theorem returnFromInterrupt_config  : (returnFromInterrupt s).config = s.config := by simp [returnFromInterrupt]
@[simp] theorem returnFromInterrupt_sp : (returnFromInterrupt s).sp = s.sp + 1 + 1 + 1 := by
  simp [returnFromInterrupt]

@[simp] theorem returnFromInterrupt_p : (returnFromInterrupt s).p = (pull8 s).1 ||| 0x20 := by
  simp [returnFromInterrupt]

/-! ### Retiring -/

@[simp] theorem retire_a  : (retire s).a = s.a := by simp only [retire]; split <;> rfl
@[simp] theorem retire_x  : (retire s).x = s.x := by simp only [retire]; split <;> rfl
@[simp] theorem retire_y  : (retire s).y = s.y := by simp only [retire]; split <;> rfl
@[simp] theorem retire_sp  : (retire s).sp = s.sp := by simp only [retire]; split <;> rfl
@[simp] theorem retire_p  : (retire s).p = s.p := by simp only [retire]; split <;> rfl
@[simp] theorem retire_pc  : (retire s).pc = s.pc := by simp only [retire]; split <;> rfl
@[simp] theorem retire_pending  : (retire s).pending = s.pending := by simp only [retire]; split <;> rfl
@[simp] theorem retire_fault  : (retire s).fault = s.fault := by simp only [retire]; split <;> rfl
@[simp] theorem retire_mem  : (retire s).mem = s.mem := by simp only [retire]; split <;> rfl
@[simp] theorem retire_portLog  : (retire s).portLog = s.portLog := by simp only [retire]; split <;> rfl
@[simp] theorem retire_hostReads  : (retire s).hostReads = s.hostReads := by simp only [retire]; split <;> rfl
@[simp] theorem retire_schedule  : (retire s).schedule = s.schedule := by simp only [retire]; split <;> rfl
@[simp] theorem retire_config  : (retire s).config = s.config := by simp only [retire]; split <;> rfl
@[simp] theorem retire_executed : (retire s).executed = s.executed + 1 := by
  simp only [retire]; split <;> rfl

theorem retire_clockMode :
    (retire s).clockMode =
      if capReached s.config.maxInstructions (s.executed + 1) then .paused else s.clockMode := by
  by_cases h : capReached s.config.maxInstructions (s.executed + 1) = true <;> simp [retire, h]

end

end Sys2Proof.Machine
end

