-- ==== Sys2Proof/Laws/Operands.lean ====
section
/-!
SUPPORT. What the addressing modes and the operand wrappers can do to the state: an effective address or a
fetch makes port calls and changes nothing else; a store writes one byte of RAM; a read-modify-write
writes `P` and its operand.
-/

namespace Sys2Proof.Machine

section
variable (s : State)

@[simp] theorem effAddr_a (m : MemOperand) : (effAddr m s).2.a = s.a := by cases m <;> simp [effAddr]
@[simp] theorem effAddr_x (m : MemOperand) : (effAddr m s).2.x = s.x := by cases m <;> simp [effAddr]
@[simp] theorem effAddr_y (m : MemOperand) : (effAddr m s).2.y = s.y := by cases m <;> simp [effAddr]
@[simp] theorem effAddr_sp (m : MemOperand) : (effAddr m s).2.sp = s.sp := by cases m <;> simp [effAddr]
@[simp] theorem effAddr_p (m : MemOperand) : (effAddr m s).2.p = s.p := by cases m <;> simp [effAddr]
@[simp] theorem effAddr_pc (m : MemOperand) : (effAddr m s).2.pc = s.pc := by cases m <;> simp [effAddr]
@[simp] theorem effAddr_clockMode (m : MemOperand) : (effAddr m s).2.clockMode = s.clockMode := by cases m <;> simp [effAddr]
@[simp] theorem effAddr_pending (m : MemOperand) : (effAddr m s).2.pending = s.pending := by cases m <;> simp [effAddr]
@[simp] theorem effAddr_executed (m : MemOperand) : (effAddr m s).2.executed = s.executed := by cases m <;> simp [effAddr]
@[simp] theorem effAddr_fault (m : MemOperand) : (effAddr m s).2.fault = s.fault := by cases m <;> simp [effAddr]
@[simp] theorem effAddr_mem (m : MemOperand) : (effAddr m s).2.mem = s.mem := by cases m <;> simp [effAddr]
@[simp] theorem effAddr_schedule (m : MemOperand) : (effAddr m s).2.schedule = s.schedule := by cases m <;> simp [effAddr]
@[simp] theorem effAddr_config (m : MemOperand) : (effAddr m s).2.config = s.config := by cases m <;> simp [effAddr]
@[simp] theorem effAddr_peek (m : MemOperand) (b : Addr) : (effAddr m s).2.peek b = s.peek b := by
  simp [State.peek]

@[simp] theorem fetchMem_a (m : MemOperand) : (fetchMem m s).2.a = s.a := by simp [fetchMem]
@[simp] theorem fetchMem_x (m : MemOperand) : (fetchMem m s).2.x = s.x := by simp [fetchMem]
@[simp] theorem fetchMem_y (m : MemOperand) : (fetchMem m s).2.y = s.y := by simp [fetchMem]
@[simp] theorem fetchMem_sp (m : MemOperand) : (fetchMem m s).2.sp = s.sp := by simp [fetchMem]
@[simp] theorem fetchMem_p (m : MemOperand) : (fetchMem m s).2.p = s.p := by simp [fetchMem]
@[simp] theorem fetchMem_pc (m : MemOperand) : (fetchMem m s).2.pc = s.pc := by simp [fetchMem]
@[simp] theorem fetchMem_clockMode (m : MemOperand) : (fetchMem m s).2.clockMode = s.clockMode := by simp [fetchMem]
@[simp] theorem fetchMem_pending (m : MemOperand) : (fetchMem m s).2.pending = s.pending := by simp [fetchMem]
@[simp] theorem fetchMem_executed (m : MemOperand) : (fetchMem m s).2.executed = s.executed := by simp [fetchMem]
@[simp] theorem fetchMem_fault (m : MemOperand) : (fetchMem m s).2.fault = s.fault := by simp [fetchMem]
@[simp] theorem fetchMem_mem (m : MemOperand) : (fetchMem m s).2.mem = s.mem := by simp [fetchMem]
@[simp] theorem fetchMem_schedule (m : MemOperand) : (fetchMem m s).2.schedule = s.schedule := by simp [fetchMem]
@[simp] theorem fetchMem_config (m : MemOperand) : (fetchMem m s).2.config = s.config := by simp [fetchMem]

@[simp] theorem fetch_a (o : ReadOperand) : (fetch o s).2.a = s.a := by cases o <;> simp [fetch]
@[simp] theorem fetch_x (o : ReadOperand) : (fetch o s).2.x = s.x := by cases o <;> simp [fetch]
@[simp] theorem fetch_y (o : ReadOperand) : (fetch o s).2.y = s.y := by cases o <;> simp [fetch]
@[simp] theorem fetch_sp (o : ReadOperand) : (fetch o s).2.sp = s.sp := by cases o <;> simp [fetch]
@[simp] theorem fetch_p (o : ReadOperand) : (fetch o s).2.p = s.p := by cases o <;> simp [fetch]
@[simp] theorem fetch_pc (o : ReadOperand) : (fetch o s).2.pc = s.pc := by cases o <;> simp [fetch]
@[simp] theorem fetch_clockMode (o : ReadOperand) : (fetch o s).2.clockMode = s.clockMode := by cases o <;> simp [fetch]
@[simp] theorem fetch_pending (o : ReadOperand) : (fetch o s).2.pending = s.pending := by cases o <;> simp [fetch]
@[simp] theorem fetch_executed (o : ReadOperand) : (fetch o s).2.executed = s.executed := by cases o <;> simp [fetch]
@[simp] theorem fetch_fault (o : ReadOperand) : (fetch o s).2.fault = s.fault := by cases o <;> simp [fetch]
@[simp] theorem fetch_mem (o : ReadOperand) : (fetch o s).2.mem = s.mem := by cases o <;> simp [fetch]
@[simp] theorem fetch_schedule (o : ReadOperand) : (fetch o s).2.schedule = s.schedule := by cases o <;> simp [fetch]
@[simp] theorem fetch_config (o : ReadOperand) : (fetch o s).2.config = s.config := by cases o <;> simp [fetch]
@[simp] theorem fetch_peek (o : ReadOperand) (b : Addr) : (fetch o s).2.peek b = s.peek b := by
  simp [State.peek]

@[simp] theorem fetch_immediate (v : Byte) : fetch (.immediate v) s = (v, s) := rfl

/-- The state in which a store makes its write: only port calls lie behind it. -/
def storeReady (m : MemOperand) : State :=
  let ea := effAddr m s
  if ea.2.config.storePreread then (memRead ea.1 ea.2).2 else ea.2

theorem store_eq (m : MemOperand) (v : Byte) :
    store m v s = memWrite (effAddr m s).1 v (storeReady s m) := rfl

@[simp] theorem storeReady_a (m : MemOperand) : (storeReady s m).a = s.a := by simp only [storeReady]; split <;> simp
@[simp] theorem storeReady_x (m : MemOperand) : (storeReady s m).x = s.x := by simp only [storeReady]; split <;> simp
@[simp] theorem storeReady_y (m : MemOperand) : (storeReady s m).y = s.y := by simp only [storeReady]; split <;> simp
@[simp] theorem storeReady_sp (m : MemOperand) : (storeReady s m).sp = s.sp := by simp only [storeReady]; split <;> simp
@[simp] theorem storeReady_p (m : MemOperand) : (storeReady s m).p = s.p := by simp only [storeReady]; split <;> simp
@[simp] theorem storeReady_pc (m : MemOperand) : (storeReady s m).pc = s.pc := by simp only [storeReady]; split <;> simp
@[simp] theorem storeReady_clockMode (m : MemOperand) : (storeReady s m).clockMode = s.clockMode := by simp only [storeReady]; split <;> simp
@[simp] theorem storeReady_pending (m : MemOperand) : (storeReady s m).pending = s.pending := by simp only [storeReady]; split <;> simp
@[simp] theorem storeReady_executed (m : MemOperand) : (storeReady s m).executed = s.executed := by simp only [storeReady]; split <;> simp
@[simp] theorem storeReady_fault (m : MemOperand) : (storeReady s m).fault = s.fault := by simp only [storeReady]; split <;> simp
@[simp] theorem storeReady_mem (m : MemOperand) : (storeReady s m).mem = s.mem := by simp only [storeReady]; split <;> simp
@[simp] theorem storeReady_schedule (m : MemOperand) : (storeReady s m).schedule = s.schedule := by simp only [storeReady]; split <;> simp
@[simp] theorem storeReady_config (m : MemOperand) : (storeReady s m).config = s.config := by simp only [storeReady]; split <;> simp

@[simp] theorem store_a (m : MemOperand) (v : Byte) : (store m v s).a = s.a := by simp [store_eq]
@[simp] theorem store_x (m : MemOperand) (v : Byte) : (store m v s).x = s.x := by simp [store_eq]
@[simp] theorem store_y (m : MemOperand) (v : Byte) : (store m v s).y = s.y := by simp [store_eq]
@[simp] theorem store_sp (m : MemOperand) (v : Byte) : (store m v s).sp = s.sp := by simp [store_eq]
@[simp] theorem store_p (m : MemOperand) (v : Byte) : (store m v s).p = s.p := by simp [store_eq]
@[simp] theorem store_pc (m : MemOperand) (v : Byte) : (store m v s).pc = s.pc := by simp [store_eq]
@[simp] theorem store_clockMode (m : MemOperand) (v : Byte) : (store m v s).clockMode = s.clockMode := by simp [store_eq]
@[simp] theorem store_pending (m : MemOperand) (v : Byte) : (store m v s).pending = s.pending := by simp [store_eq]
@[simp] theorem store_executed (m : MemOperand) (v : Byte) : (store m v s).executed = s.executed := by simp [store_eq]
@[simp] theorem store_fault (m : MemOperand) (v : Byte) : (store m v s).fault = s.fault := by simp [store_eq]
@[simp] theorem store_schedule (m : MemOperand) (v : Byte) : (store m v s).schedule = s.schedule := by simp [store_eq]
@[simp] theorem store_config (m : MemOperand) (v : Byte) : (store m v s).config = s.config := by simp [store_eq]

/-- RAM after a store: the byte at the effective address, every other byte as before. -/
theorem store_peek (hm : s.mem.wf = true) (m : MemOperand) (v : Byte) (b : Addr) :
    (store m v s).peek b =
      if b = (effAddr m s).1 ∧ isDevice s.config (effAddr m s).1 = false then v else s.peek b := by
  rw [store_eq, memWrite_peek _ (by simpa using hm)]
  simp [State.peek]

theorem store_wf (hm : s.mem.wf = true) (m : MemOperand) (v : Byte) : (store m v s).mem.wf = true := by
  simp [store_eq, hm]

/-- Everything a read-modify-write can do: `P` written by the family, and the result in `A` or in the
byte at the effective address. -/
theorem modify_cases {f : Byte → State → Byte × State} (hf : WritesNZC f) (o : RmwOperand) :
    (o = .accumulator ∧ ∃ p, modify o f s = (s.setP p).setA (f s.a s).1 ∧
      ∀ g, g ≠ .N → g ≠ .Z → g ≠ .C → getFlag p g = getFlag s.p g) ∨
    (∃ m, o = .mem m ∧ ∃ p, modify o f s =
        memWrite (effAddr m s).1 (f (fetchMem m s).1 (fetchMem m s).2).1 ((fetchMem m s).2.setP p) ∧
      ∀ g, g ≠ .N → g ≠ .Z → g ≠ .C → getFlag p g = getFlag s.p g) := by
  cases o with
  | accumulator =>
    obtain ⟨p, hp, hk⟩ := hf s.a s
    exact .inl ⟨rfl, p, by simp [modify, hp], hk⟩
  | mem m =>
    obtain ⟨p, hp, hk⟩ := hf (fetchMem m s).1 (fetchMem m s).2
    refine .inr ⟨m, rfl, p, ?_, by simpa using hk⟩
    simp only [fetchMem] at hp
    simp [modify, fetchMem, hp]

/-- A branch changes `PC` alone. -/
theorem branchIf_eq (c : Bool) (d : Byte) :
    branchIf c d s = s.setPc (if c then relTarget s.pc d else s.pc) := by
  cases c <;> rfl

end

end Sys2Proof.Machine
end

