-- ==== Sys2Proof/Laws/Exec.lean ====
section
/-!
SUPPORT. What the instructions of each form do, as one function of the form, and what no instruction does:
change the configuration, the fault record, the count or the schedule, or take RAM out of its canonical
form.
-/

namespace Sys2Proof.Machine

/-- What every instruction keeps. -/
structure Keeps (s t : State) : Prop where
  config : t.config = s.config
  fault : t.fault = s.fault
  executed : t.executed = s.executed
  schedule : t.schedule = s.schedule
  wf : s.mem.wf = true → t.mem.wf = true
  const : getFlag s.p .K = true → getFlag t.p .K = true

section
variable (s : State)

theorem Keeps.refl : Keeps s s := ⟨rfl, rfl, rfl, rfl, id, id⟩

theorem keeps_loadA (o : ReadOperand) : Keeps s (loadA o s) := by
  constructor <;> simp [loadA, normToA_eq]

theorem keeps_loadX (o : ReadOperand) : Keeps s (loadX o s) := by
  constructor <;> simp [loadX, normToX_eq]

theorem keeps_loadY (o : ReadOperand) : Keeps s (loadY o s) := by
  constructor <;> simp [loadY, normToY_eq]

theorem keeps_store (m : MemOperand) (v : Byte) : Keeps s (store m v s) := by
  constructor <;> simp +contextual [store_wf]

theorem keeps_orA (o : ReadOperand) : Keeps s (orA o s) := by
  constructor <;> simp [orA, normToA_eq]

theorem keeps_andA (o : ReadOperand) : Keeps s (andA o s) := by
  constructor <;> simp [andA, normToA_eq]

theorem keeps_eorA (o : ReadOperand) : Keeps s (eorA o s) := by
  constructor <;> simp [eorA, normToA_eq]

theorem keeps_addWithCarry (w : Byte) : Keeps s (addWithCarry w s) := by
  obtain ⟨p, h, hk⟩ := addWithCarry_eq w s
  rw [h]
  constructor <;> simp [hk]

theorem Keeps.trans {s t u : State} (h : Keeps s t) (h' : Keeps t u) : Keeps s u :=
  ⟨h'.config.trans h.config, h'.fault.trans h.fault, h'.executed.trans h.executed,
    h'.schedule.trans h.schedule, h'.wf ∘ h.wf, h'.const ∘ h.const⟩

theorem keeps_fetch (o : ReadOperand) : Keeps s (fetch o s).2 := by
  constructor <;> simp

theorem keeps_addToA (o : ReadOperand) : Keeps s (addToA o s) :=
  (keeps_fetch s o).trans (keeps_addWithCarry _ _)

theorem keeps_subtractFromA (o : ReadOperand) : Keeps s (subtractFromA o s) :=
  (keeps_fetch s o).trans (keeps_addWithCarry _ _)

theorem keeps_compareWith (reg v : Byte) : Keeps s (compareWith reg v s) := by
  obtain ⟨p, h, hk⟩ := compareWith_eq reg v s
  rw [h]
  constructor <;> simp [hk]

theorem keeps_compareA (o : ReadOperand) : Keeps s (compareA o s) :=
  (keeps_fetch s o).trans (keeps_compareWith _ _ _)

theorem keeps_compareX (o : ReadOperand) : Keeps s (compareX o s) :=
  (keeps_fetch s o).trans (keeps_compareWith _ _ _)

theorem keeps_compareY (o : ReadOperand) : Keeps s (compareY o s) :=
  (keeps_fetch s o).trans (keeps_compareWith _ _ _)

theorem keeps_testBits (o : ReadOperand) : Keeps s (testBits o s) := by
  obtain ⟨p, h, hk⟩ := bitTest_eq (fetch o s).1 (fetch o s).2
  refine (keeps_fetch s o).trans ?_
  simp only [testBits, h]
  constructor <;> simp [hk]

theorem keeps_modify {f : Byte → State → Byte × State} (hf : WritesNZC f) (o : RmwOperand) :
    Keeps s (modify o f s) := by
  obtain ⟨-, p, h, hk⟩ | ⟨m, -, p, h, hk⟩ := modify_cases s hf o <;> rw [h]
  · constructor <;> simp [hk]
  · constructor <;> simp +contextual [hk]

theorem keeps_normToA (raw : Nat) : Keeps s (normToA raw s) := by
  constructor <;> simp [normToA_eq]

theorem keeps_normToX (raw : Nat) : Keeps s (normToX raw s) := by
  constructor <;> simp [normToX_eq]

theorem keeps_normToY (raw : Nat) : Keeps s (normToY raw s) := by
  constructor <;> simp [normToY_eq]

theorem keeps_branchIf (c : Bool) (d : Byte) : Keeps s (branchIf c d s) := by
  rw [branchIf_eq]
  constructor <;> simp

theorem keeps_setPc (v : Addr) : Keeps s (s.setPc v) := by constructor <;> simp

theorem keeps_jumpIndirect (v : Addr) : Keeps s (jumpIndirect v s) := by
  constructor <;> simp [jumpIndirect]

theorem keeps_callSubroutine (v : Addr) : Keeps s (callSubroutine v s) := by
  constructor <;> simp +contextual [callSubroutine]

theorem keeps_returnFromSubroutine : Keeps s (returnFromSubroutine s) := by
  constructor <;> simp [returnFromSubroutine]

theorem keeps_setSp (v : Byte) : Keeps s (s.setSp v) := by constructor <;> simp

theorem keeps_writeFlag {f : Flag} (hf : f ≠ .K) (b : Bool) : Keeps s (s.writeFlag f b) := by
  constructor <;> simp [writeFlag_eq, hf.symm]

theorem keeps_push8 (v : Byte) : Keeps s (push8 v s) := by
  constructor <;> simp +contextual

theorem keeps_pullA : Keeps s (pullA s) := by
  constructor <;> simp [pullA, normToA_eq]

theorem keeps_pullStatus : Keeps s (pullStatus s) := by
  constructor <;> simp

theorem keeps_requestIrq (b : Bool) : Keeps s (requestIrq b s) := by
  constructor <;> simp [requestIrq, writeFlag_eq]

theorem keeps_returnFromInterrupt : Keeps s (returnFromInterrupt s) := by
  constructor <;> simp

theorem keeps_setClockMode (v : ClockMode) : Keeps s (s.setClockMode v) := by constructor <;> simp

end

end Sys2Proof.Machine

namespace Sys2Proof

open Machine

/-! ### All of `exec` -/

/-- The computation of a read-modify-write family (43_shift_rotate_incdec.md R110 to R115). -/
def RmwFamily.compute : RmwFamily → Byte → State → Byte × State
  | .asl => shiftLeft
  | .lsr => shiftRight
  | .rol => rotateLeft
  | .ror => rotateRight
  | .inc => increment
  | .dec => decrement

theorem RmwFamily.compute_writes (f : RmwFamily) : WritesNZC f.compute := by
  cases f
  · exact shiftLeft_writes
  · exact shiftRight_writes
  · exact rotateLeft_writes
  · exact rotateRight_writes
  · exact increment_writes
  · exact decrement_writes

/-- What the instructions of each form do. `exec_eq_effect` says that `exec` does this, so a proof over all
instructions has one case for each family and none for each mode. -/
def Form.effect : Form → State → State
  | .read .lda o, s => loadA o s
  | .read .ldx o, s => loadX o s
  | .read .ldy o, s => loadY o s
  | .read .ora o, s => orA o s
  | .read .and o, s => andA o s
  | .read .eor o, s => eorA o s
  | .read .adc o, s => addToA o s
  | .read .sbc o, s => subtractFromA o s
  | .read .cmp o, s => compareA o s
  | .read .cpx o, s => compareX o s
  | .read .cpy o, s => compareY o s
  | .read .bit o, s => testBits o s
  | .store .sta m, s => Machine.store m s.a s
  | .store .stx m, s => Machine.store m s.x s
  | .store .sty m, s => Machine.store m s.y s
  | .rmw f o, s => modify o f.compute s
  | .branch .bpl d, s => branchIf (!getFlag s.p .N) d s
  | .branch .bmi d, s => branchIf (getFlag s.p .N) d s
  | .branch .bvc d, s => branchIf (!getFlag s.p .V) d s
  | .branch .bvs d, s => branchIf (getFlag s.p .V) d s
  | .branch .bcc d, s => branchIf (!getFlag s.p .C) d s
  | .branch .bcs d, s => branchIf (getFlag s.p .C) d s
  | .branch .bne d, s => branchIf (!getFlag s.p .Z) d s
  | .branch .beq d, s => branchIf (getFlag s.p .Z) d s
  | .jump a, s => s.setPc a
  | .jumpIndirect a, s => Machine.jumpIndirect a s
  | .call a, s => callSubroutine a s
  | .implied .inx, s => normToX (s.x.toNat + 1) s
  | .implied .iny, s => normToY (s.y.toNat + 1) s
  | .implied .dex, s => normToX (s.x.toNat + 255) s
  | .implied .dey, s => normToY (s.y.toNat + 255) s
  | .implied .rts, s => returnFromSubroutine s
  | .implied .tax, s => normToX s.a.toNat s
  | .implied .txa, s => normToA s.x.toNat s
  | .implied .tay, s => normToY s.a.toNat s
  | .implied .tya, s => normToA s.y.toNat s
  | .implied .tsx, s => normToX s.sp.toNat s
  | .implied .txs, s => s.setSp s.x
  | .implied .clc, s => s.writeFlag .C false
  | .implied .sec, s => s.writeFlag .C true
  | .implied .cli, s => s.writeFlag .I false
  | .implied .sei, s => s.writeFlag .I true
  | .implied .clv, s => s.writeFlag .V false
  | .implied .cld, s => s.writeFlag .D false
  | .implied .sed, s => s.writeFlag .D true
  | .implied .pha, s => push8 s.a s
  | .implied .pla, s => pullA s
  | .implied .php, s => push8 s.p s
  | .implied .plp, s => pullStatus s
  | .implied .nop, s => s
  | .implied .brk, s => requestIrq true s
  | .implied .rti, s => returnFromInterrupt s
  | .implied .wai, s => s.setClockMode .waitForInterrupt

end Sys2Proof

namespace Sys2Proof.Machine

/-- Every instruction completes, with the effect of its form. -/
theorem exec_eq_effect (i : Instr) (s : State) : exec i s = .next (i.form.effect s) := by
  cases i <;> rfl

theorem effect_keeps (fm : Form) (s : State) : Keeps s (fm.effect s) := by
  match fm with
  | .read f o =>
    cases f
    · exact keeps_loadA _ _
    · exact keeps_loadX _ _
    · exact keeps_loadY _ _
    · exact keeps_orA _ _
    · exact keeps_andA _ _
    · exact keeps_eorA _ _
    · exact keeps_addToA _ _
    · exact keeps_subtractFromA _ _
    · exact keeps_compareA _ _
    · exact keeps_compareX _ _
    · exact keeps_compareY _ _
    · exact keeps_testBits _ _
  | .store f m => cases f <;> exact keeps_store _ _ _
  | .rmw f o => exact keeps_modify _ f.compute_writes _
  | .branch f d => cases f <;> exact keeps_branchIf _ _ _
  | .jump a => exact keeps_setPc _ _
  | .jumpIndirect a => exact keeps_jumpIndirect _ _
  | .call a => exact keeps_callSubroutine _ _
  | .implied f =>
    cases f
    case inx => exact keeps_normToX _ _
    case iny => exact keeps_normToY _ _
    case dex => exact keeps_normToX _ _
    case dey => exact keeps_normToY _ _
    case rts => exact keeps_returnFromSubroutine _
    case tax => exact keeps_normToX _ _
    case txa => exact keeps_normToA _ _
    case tay => exact keeps_normToY _ _
    case tya => exact keeps_normToA _ _
    case tsx => exact keeps_normToX _ _
    case txs => exact keeps_setSp _ _
    case pha => exact keeps_push8 _ _
    case php => exact keeps_push8 _ _
    case pla => exact keeps_pullA _
    case plp => exact keeps_pullStatus _
    case nop => exact Keeps.refl _
    case brk => exact keeps_requestIrq _ _
    case rti => exact keeps_returnFromInterrupt _
    case wai => exact keeps_setClockMode _ _
    all_goals exact keeps_writeFlag _ (by simp) _

/-- Every instruction keeps the configuration, the fault record, the count, the schedule, the canonical
form of RAM and bit 5 of `P`. -/
theorem exec_keeps {i : Instr} {s t : State} (h : exec i s = .next t) : Keeps s t := by
  rw [exec_eq_effect] at h
  cases h
  exact effect_keeps i.form s

end Sys2Proof.Machine
end

