-- ==== Sys2Proof/Laws/PerInstr.lean ====
section
/-!
SUPPORT. Two families of lemmas over the instructions, one lemma for each constructor: RoundTrip (the
decoder gives an encoded instruction back) and Length (the length the opcode says is that of the code).
-/

/-- Decoding the bytes of a bound instruction gives the instruction and the bytes after it. -/
def Sys2Proof.Laws.RoundTrip.Statement (i : Sys2Proof.Instr) : Prop :=
  ∀ (cfg : Sys2Proof.Config) (rest : List Sys2Proof.Byte), i.wf cfg = true →
    Sys2Proof.decode cfg (Sys2Proof.encode i ++ rest) = .ok (i, rest)

/-- The opcode byte alone tells the length of the instruction's code (30_encoding.md R59). -/
def Sys2Proof.Laws.Length.Statement (i : Sys2Proof.Instr) : Prop :=
  (Sys2Proof.encode i).length = i.length ∧
    ∃ sh, Sys2Proof.matrix i.opcode = some sh ∧ i.length = 1 + sh.operandByteCount

namespace Sys2Proof.Laws

/-- An instruction of tier S is bound only while tier S is. -/
theorem tierS_bound {cfg : Config} {i : Instr} (ht : i.form.tierS = true) (h : i.wf cfg = true) :
    cfg.bindTierS = true := by
  simpa [Instr.wf, ht] using h

theorem RoundTrip.ldaImm (v : Byte) : RoundTrip.Statement (.ldaImm v) :=
  fun _ rest _ => decode_byteOperand (op := 0xA9) ((decodeOpcode_plain rfl).trans rfl) v rest
theorem RoundTrip.ldaZp (v : Byte) : RoundTrip.Statement (.ldaZp v) :=
  fun _ rest _ => decode_byteOperand (op := 0xA5) ((decodeOpcode_plain rfl).trans rfl) v rest
theorem RoundTrip.ldaZpX (v : Byte) : RoundTrip.Statement (.ldaZpX v) :=
  fun _ rest _ => decode_byteOperand (op := 0xB5) ((decodeOpcode_plain rfl).trans rfl) v rest
theorem RoundTrip.ldaAbs (v : Addr) : RoundTrip.Statement (.ldaAbs v) :=
  fun _ rest _ => decode_wordOperand (op := 0xAD) ((decodeOpcode_plain rfl).trans rfl) v rest
theorem RoundTrip.ldaAbsX (v : Addr) : RoundTrip.Statement (.ldaAbsX v) :=
  fun _ rest _ => decode_wordOperand (op := 0xBD) ((decodeOpcode_plain rfl).trans rfl) v rest
theorem RoundTrip.ldaAbsY (v : Addr) : RoundTrip.Statement (.ldaAbsY v) :=
  fun _ rest _ => decode_wordOperand (op := 0xB9) ((decodeOpcode_plain rfl).trans rfl) v rest
theorem RoundTrip.ldaIndX (v : Byte) : RoundTrip.Statement (.ldaIndX v) :=
  fun _ rest _ => decode_byteOperand (op := 0xA1) ((decodeOpcode_plain rfl).trans rfl) v rest
theorem RoundTrip.ldaIndY (v : Byte) : RoundTrip.Statement (.ldaIndY v) :=
  fun _ rest _ => decode_byteOperand (op := 0xB1) ((decodeOpcode_plain rfl).trans rfl) v rest
theorem RoundTrip.ldxImm (v : Byte) : RoundTrip.Statement (.ldxImm v) :=
  fun _ rest _ => decode_byteOperand (op := 0xA2) ((decodeOpcode_plain rfl).trans rfl) v rest
theorem RoundTrip.ldxZp (v : Byte) : RoundTrip.Statement (.ldxZp v) :=
  fun _ rest _ => decode_byteOperand (op := 0xA6) ((decodeOpcode_plain rfl).trans rfl) v rest
theorem RoundTrip.ldxZpY (v : Byte) : RoundTrip.Statement (.ldxZpY v) :=
  fun _ rest _ => decode_byteOperand (op := 0xB6) ((decodeOpcode_plain rfl).trans rfl) v rest
theorem RoundTrip.ldxAbs (v : Addr) : RoundTrip.Statement (.ldxAbs v) :=
  fun _ rest _ => decode_wordOperand (op := 0xAE) ((decodeOpcode_plain rfl).trans rfl) v rest
theorem RoundTrip.ldxAbsY (v : Addr) : RoundTrip.Statement (.ldxAbsY v) :=
  fun _ rest _ => decode_wordOperand (op := 0xBE) ((decodeOpcode_plain rfl).trans rfl) v rest
theorem RoundTrip.ldyImm (v : Byte) : RoundTrip.Statement (.ldyImm v) :=
  fun _ rest _ => decode_byteOperand (op := 0xA0) ((decodeOpcode_plain rfl).trans rfl) v rest
theorem RoundTrip.ldyZp (v : Byte) : RoundTrip.Statement (.ldyZp v) :=
  fun _ rest _ => decode_byteOperand (op := 0xA4) ((decodeOpcode_plain rfl).trans rfl) v rest
theorem RoundTrip.ldyZpX (v : Byte) : RoundTrip.Statement (.ldyZpX v) :=
  fun _ rest _ => decode_byteOperand (op := 0xB4) ((decodeOpcode_plain rfl).trans rfl) v rest
theorem RoundTrip.ldyAbs (v : Addr) : RoundTrip.Statement (.ldyAbs v) :=
  fun _ rest _ => decode_wordOperand (op := 0xAC) ((decodeOpcode_plain rfl).trans rfl) v rest
theorem RoundTrip.ldyAbsX (v : Addr) : RoundTrip.Statement (.ldyAbsX v) :=
  fun _ rest _ => decode_wordOperand (op := 0xBC) ((decodeOpcode_plain rfl).trans rfl) v rest
theorem RoundTrip.staZp (v : Byte) : RoundTrip.Statement (.staZp v) :=
  fun _ rest _ => decode_byteOperand (op := 0x85) ((decodeOpcode_plain rfl).trans rfl) v rest
theorem RoundTrip.staZpX (v : Byte) : RoundTrip.Statement (.staZpX v) :=
  fun _ rest _ => decode_byteOperand (op := 0x95) ((decodeOpcode_plain rfl).trans rfl) v rest
theorem RoundTrip.staAbs (v : Addr) : RoundTrip.Statement (.staAbs v) :=
  fun _ rest _ => decode_wordOperand (op := 0x8D) ((decodeOpcode_plain rfl).trans rfl) v rest
theorem RoundTrip.staAbsX (v : Addr) : RoundTrip.Statement (.staAbsX v) :=
  fun _ rest _ => decode_wordOperand (op := 0x9D) ((decodeOpcode_plain rfl).trans rfl) v rest
theorem RoundTrip.staAbsY (v : Addr) : RoundTrip.Statement (.staAbsY v) :=
  fun _ rest _ => decode_wordOperand (op := 0x99) ((decodeOpcode_plain rfl).trans rfl) v rest
theorem RoundTrip.staIndX (v : Byte) : RoundTrip.Statement (.staIndX v) :=
  fun _ rest _ => decode_byteOperand (op := 0x81) ((decodeOpcode_plain rfl).trans rfl) v rest
theorem RoundTrip.staIndY (v : Byte) : RoundTrip.Statement (.staIndY v) :=
  fun _ rest _ => decode_byteOperand (op := 0x91) ((decodeOpcode_plain rfl).trans rfl) v rest
theorem RoundTrip.stxZp (v : Byte) : RoundTrip.Statement (.stxZp v) :=
  fun _ rest _ => decode_byteOperand (op := 0x86) ((decodeOpcode_plain rfl).trans rfl) v rest
theorem RoundTrip.stxZpY (v : Byte) : RoundTrip.Statement (.stxZpY v) :=
  fun _ rest _ => decode_byteOperand (op := 0x96) ((decodeOpcode_plain rfl).trans rfl) v rest
theorem RoundTrip.stxAbs (v : Addr) : RoundTrip.Statement (.stxAbs v) :=
  fun _ rest _ => decode_wordOperand (op := 0x8E) ((decodeOpcode_plain rfl).trans rfl) v rest
theorem RoundTrip.styZp (v : Byte) : RoundTrip.Statement (.styZp v) :=
  fun _ rest _ => decode_byteOperand (op := 0x84) ((decodeOpcode_plain rfl).trans rfl) v rest
theorem RoundTrip.styZpX (v : Byte) : RoundTrip.Statement (.styZpX v) :=
  fun _ rest _ => decode_byteOperand (op := 0x94) ((decodeOpcode_plain rfl).trans rfl) v rest
theorem RoundTrip.styAbs (v : Addr) : RoundTrip.Statement (.styAbs v) :=
  fun _ rest _ => decode_wordOperand (op := 0x8C) ((decodeOpcode_plain rfl).trans rfl) v rest
theorem RoundTrip.oraImm (v : Byte) : RoundTrip.Statement (.oraImm v) :=
  fun _ rest _ => decode_byteOperand (op := 0x09) ((decodeOpcode_plain rfl).trans rfl) v rest
theorem RoundTrip.oraZp (v : Byte) : RoundTrip.Statement (.oraZp v) :=
  fun _ rest _ => decode_byteOperand (op := 0x05) ((decodeOpcode_plain rfl).trans rfl) v rest
theorem RoundTrip.oraZpX (v : Byte) : RoundTrip.Statement (.oraZpX v) :=
  fun _ rest _ => decode_byteOperand (op := 0x15) ((decodeOpcode_plain rfl).trans rfl) v rest
theorem RoundTrip.oraAbs (v : Addr) : RoundTrip.Statement (.oraAbs v) :=
  fun _ rest _ => decode_wordOperand (op := 0x0D) ((decodeOpcode_plain rfl).trans rfl) v rest
theorem RoundTrip.oraAbsX (v : Addr) : RoundTrip.Statement (.oraAbsX v) :=
  fun _ rest _ => decode_wordOperand (op := 0x1D) ((decodeOpcode_plain rfl).trans rfl) v rest
theorem RoundTrip.oraAbsY (v : Addr) : RoundTrip.Statement (.oraAbsY v) :=
  fun _ rest _ => decode_wordOperand (op := 0x19) ((decodeOpcode_plain rfl).trans rfl) v rest
theorem RoundTrip.oraIndX (v : Byte) : RoundTrip.Statement (.oraIndX v) :=
  fun _ rest _ => decode_byteOperand (op := 0x01) ((decodeOpcode_plain rfl).trans rfl) v rest
theorem RoundTrip.oraIndY (v : Byte) : RoundTrip.Statement (.oraIndY v) :=
  fun _ rest _ => decode_byteOperand (op := 0x11) ((decodeOpcode_plain rfl).trans rfl) v rest
theorem RoundTrip.andImm (v : Byte) : RoundTrip.Statement (.andImm v) :=
  fun _ rest _ => decode_byteOperand (op := 0x29) ((decodeOpcode_plain rfl).trans rfl) v rest
theorem RoundTrip.andZp (v : Byte) : RoundTrip.Statement (.andZp v) :=
  fun _ rest _ => decode_byteOperand (op := 0x25) ((decodeOpcode_plain rfl).trans rfl) v rest
theorem RoundTrip.andZpX (v : Byte) : RoundTrip.Statement (.andZpX v) :=
  fun _ rest _ => decode_byteOperand (op := 0x35) ((decodeOpcode_plain rfl).trans rfl) v rest
theorem RoundTrip.andAbs (v : Addr) : RoundTrip.Statement (.andAbs v) :=
  fun _ rest _ => decode_wordOperand (op := 0x2D) ((decodeOpcode_plain rfl).trans rfl) v rest
theorem RoundTrip.andAbsX (v : Addr) : RoundTrip.Statement (.andAbsX v) :=
  fun _ rest _ => decode_wordOperand (op := 0x3D) ((decodeOpcode_plain rfl).trans rfl) v rest
theorem RoundTrip.andAbsY (v : Addr) : RoundTrip.Statement (.andAbsY v) :=
  fun _ rest _ => decode_wordOperand (op := 0x39) ((decodeOpcode_plain rfl).trans rfl) v rest
theorem RoundTrip.andIndX (v : Byte) : RoundTrip.Statement (.andIndX v) :=
  fun _ rest _ => decode_byteOperand (op := 0x21) ((decodeOpcode_plain rfl).trans rfl) v rest
theorem RoundTrip.andIndY (v : Byte) : RoundTrip.Statement (.andIndY v) :=
  fun _ rest _ => decode_byteOperand (op := 0x31) ((decodeOpcode_plain rfl).trans rfl) v rest
theorem RoundTrip.eorImm (v : Byte) : RoundTrip.Statement (.eorImm v) :=
  fun _ rest _ => decode_byteOperand (op := 0x49) ((decodeOpcode_plain rfl).trans rfl) v rest
theorem RoundTrip.eorZp (v : Byte) : RoundTrip.Statement (.eorZp v) :=
  fun _ rest _ => decode_byteOperand (op := 0x45) ((decodeOpcode_plain rfl).trans rfl) v rest
theorem RoundTrip.eorZpX (v : Byte) : RoundTrip.Statement (.eorZpX v) :=
  fun _ rest _ => decode_byteOperand (op := 0x55) ((decodeOpcode_plain rfl).trans rfl) v rest
theorem RoundTrip.eorAbs (v : Addr) : RoundTrip.Statement (.eorAbs v) :=
  fun _ rest _ => decode_wordOperand (op := 0x4D) ((decodeOpcode_plain rfl).trans rfl) v rest
theorem RoundTrip.eorAbsX (v : Addr) : RoundTrip.Statement (.eorAbsX v) :=
  fun _ rest _ => decode_wordOperand (op := 0x5D) ((decodeOpcode_plain rfl).trans rfl) v rest
theorem RoundTrip.eorAbsY (v : Addr) : RoundTrip.Statement (.eorAbsY v) :=
  fun _ rest _ => decode_wordOperand (op := 0x59) ((decodeOpcode_plain rfl).trans rfl) v rest
theorem RoundTrip.eorIndX (v : Byte) : RoundTrip.Statement (.eorIndX v) :=
  fun _ rest _ => decode_byteOperand (op := 0x41) ((decodeOpcode_plain rfl).trans rfl) v rest
theorem RoundTrip.eorIndY (v : Byte) : RoundTrip.Statement (.eorIndY v) :=
  fun _ rest _ => decode_byteOperand (op := 0x51) ((decodeOpcode_plain rfl).trans rfl) v rest
theorem RoundTrip.adcImm (v : Byte) : RoundTrip.Statement (.adcImm v) :=
  fun _ rest _ => decode_byteOperand (op := 0x69) ((decodeOpcode_plain rfl).trans rfl) v rest
theorem RoundTrip.adcZp (v : Byte) : RoundTrip.Statement (.adcZp v) :=
  fun _ rest _ => decode_byteOperand (op := 0x65) ((decodeOpcode_plain rfl).trans rfl) v rest
theorem RoundTrip.adcZpX (v : Byte) : RoundTrip.Statement (.adcZpX v) :=
  fun _ rest _ => decode_byteOperand (op := 0x75) ((decodeOpcode_plain rfl).trans rfl) v rest
theorem RoundTrip.adcAbs (v : Addr) : RoundTrip.Statement (.adcAbs v) :=
  fun _ rest _ => decode_wordOperand (op := 0x6D) ((decodeOpcode_plain rfl).trans rfl) v rest
theorem RoundTrip.adcAbsX (v : Addr) : RoundTrip.Statement (.adcAbsX v) :=
  fun _ rest _ => decode_wordOperand (op := 0x7D) ((decodeOpcode_plain rfl).trans rfl) v rest
theorem RoundTrip.adcAbsY (v : Addr) : RoundTrip.Statement (.adcAbsY v) :=
  fun _ rest _ => decode_wordOperand (op := 0x79) ((decodeOpcode_plain rfl).trans rfl) v rest
theorem RoundTrip.adcIndX (v : Byte) : RoundTrip.Statement (.adcIndX v) :=
  fun _ rest _ => decode_byteOperand (op := 0x61) ((decodeOpcode_plain rfl).trans rfl) v rest
theorem RoundTrip.adcIndY (v : Byte) : RoundTrip.Statement (.adcIndY v) :=
  fun _ rest _ => decode_byteOperand (op := 0x71) ((decodeOpcode_plain rfl).trans rfl) v rest
theorem RoundTrip.sbcImm (v : Byte) : RoundTrip.Statement (.sbcImm v) :=
  fun _ rest _ => decode_byteOperand (op := 0xE9) ((decodeOpcode_plain rfl).trans rfl) v rest
theorem RoundTrip.sbcZp (v : Byte) : RoundTrip.Statement (.sbcZp v) :=
  fun _ rest _ => decode_byteOperand (op := 0xE5) ((decodeOpcode_plain rfl).trans rfl) v rest
theorem RoundTrip.sbcZpX (v : Byte) : RoundTrip.Statement (.sbcZpX v) :=
  fun _ rest _ => decode_byteOperand (op := 0xF5) ((decodeOpcode_plain rfl).trans rfl) v rest
theorem RoundTrip.sbcAbs (v : Addr) : RoundTrip.Statement (.sbcAbs v) :=
  fun _ rest _ => decode_wordOperand (op := 0xED) ((decodeOpcode_plain rfl).trans rfl) v rest
theorem RoundTrip.sbcAbsX (v : Addr) : RoundTrip.Statement (.sbcAbsX v) :=
  fun _ rest _ => decode_wordOperand (op := 0xFD) ((decodeOpcode_plain rfl).trans rfl) v rest
theorem RoundTrip.sbcAbsY (v : Addr) : RoundTrip.Statement (.sbcAbsY v) :=
  fun _ rest _ => decode_wordOperand (op := 0xF9) ((decodeOpcode_plain rfl).trans rfl) v rest
theorem RoundTrip.sbcIndX (v : Byte) : RoundTrip.Statement (.sbcIndX v) :=
  fun _ rest _ => decode_byteOperand (op := 0xE1) ((decodeOpcode_plain rfl).trans rfl) v rest
theorem RoundTrip.sbcIndY (v : Byte) : RoundTrip.Statement (.sbcIndY v) :=
  fun _ rest _ => decode_byteOperand (op := 0xF1) ((decodeOpcode_plain rfl).trans rfl) v rest
theorem RoundTrip.cmpImm (v : Byte) : RoundTrip.Statement (.cmpImm v) :=
  fun _ rest _ => decode_byteOperand (op := 0xC9) ((decodeOpcode_plain rfl).trans rfl) v rest
theorem RoundTrip.cmpZp (v : Byte) : RoundTrip.Statement (.cmpZp v) :=
  fun _ rest _ => decode_byteOperand (op := 0xC5) ((decodeOpcode_plain rfl).trans rfl) v rest
theorem RoundTrip.cmpZpX (v : Byte) : RoundTrip.Statement (.cmpZpX v) :=
  fun _ rest _ => decode_byteOperand (op := 0xD5) ((decodeOpcode_plain rfl).trans rfl) v rest
theorem RoundTrip.cmpAbs (v : Addr) : RoundTrip.Statement (.cmpAbs v) :=
  fun _ rest _ => decode_wordOperand (op := 0xCD) ((decodeOpcode_plain rfl).trans rfl) v rest
theorem RoundTrip.cmpAbsX (v : Addr) : RoundTrip.Statement (.cmpAbsX v) :=
  fun _ rest _ => decode_wordOperand (op := 0xDD) ((decodeOpcode_plain rfl).trans rfl) v rest
theorem RoundTrip.cmpAbsY (v : Addr) : RoundTrip.Statement (.cmpAbsY v) :=
  fun _ rest _ => decode_wordOperand (op := 0xD9) ((decodeOpcode_plain rfl).trans rfl) v rest
theorem RoundTrip.cmpIndX (v : Byte) : RoundTrip.Statement (.cmpIndX v) :=
  fun _ rest _ => decode_byteOperand (op := 0xC1) ((decodeOpcode_plain rfl).trans rfl) v rest
theorem RoundTrip.cmpIndY (v : Byte) : RoundTrip.Statement (.cmpIndY v) :=
  fun _ rest _ => decode_byteOperand (op := 0xD1) ((decodeOpcode_plain rfl).trans rfl) v rest
theorem RoundTrip.cpxImm (v : Byte) : RoundTrip.Statement (.cpxImm v) :=
  fun _ rest _ => decode_byteOperand (op := 0xE0) ((decodeOpcode_plain rfl).trans rfl) v rest
theorem RoundTrip.cpxZp (v : Byte) : RoundTrip.Statement (.cpxZp v) :=
  fun _ rest _ => decode_byteOperand (op := 0xE4) ((decodeOpcode_plain rfl).trans rfl) v rest
theorem RoundTrip.cpxAbs (v : Addr) : RoundTrip.Statement (.cpxAbs v) :=
  fun _ rest _ => decode_wordOperand (op := 0xEC) ((decodeOpcode_plain rfl).trans rfl) v rest
theorem RoundTrip.cpyImm (v : Byte) : RoundTrip.Statement (.cpyImm v) :=
  fun _ rest _ => decode_byteOperand (op := 0xC0) ((decodeOpcode_plain rfl).trans rfl) v rest
theorem RoundTrip.cpyZp (v : Byte) : RoundTrip.Statement (.cpyZp v) :=
  fun _ rest _ => decode_byteOperand (op := 0xC4) ((decodeOpcode_plain rfl).trans rfl) v rest
theorem RoundTrip.cpyAbs (v : Addr) : RoundTrip.Statement (.cpyAbs v) :=
  fun _ rest _ => decode_wordOperand (op := 0xCC) ((decodeOpcode_plain rfl).trans rfl) v rest
theorem RoundTrip.bitZp (v : Byte) : RoundTrip.Statement (.bitZp v) :=
  fun _ rest h => decode_byteOperand (op := 0x24) ((decodeOpcode_tierS (tierS_bound rfl h)).trans rfl) v rest
theorem RoundTrip.bitAbs (v : Addr) : RoundTrip.Statement (.bitAbs v) :=
  fun _ rest h => decode_wordOperand (op := 0x2C) ((decodeOpcode_tierS (tierS_bound rfl h)).trans rfl) v rest
theorem RoundTrip.aslAcc : RoundTrip.Statement (.aslAcc) :=
  fun _ rest _ => decode_noOperand (op := 0x0A) ((decodeOpcode_plain rfl).trans rfl) rest
theorem RoundTrip.aslZp (v : Byte) : RoundTrip.Statement (.aslZp v) :=
  fun _ rest _ => decode_byteOperand (op := 0x06) ((decodeOpcode_plain rfl).trans rfl) v rest
theorem RoundTrip.aslZpX (v : Byte) : RoundTrip.Statement (.aslZpX v) :=
  fun _ rest _ => decode_byteOperand (op := 0x16) ((decodeOpcode_plain rfl).trans rfl) v rest
theorem RoundTrip.aslAbs (v : Addr) : RoundTrip.Statement (.aslAbs v) :=
  fun _ rest _ => decode_wordOperand (op := 0x0E) ((decodeOpcode_plain rfl).trans rfl) v rest
theorem RoundTrip.aslAbsX (v : Addr) : RoundTrip.Statement (.aslAbsX v) :=
  fun _ rest _ => decode_wordOperand (op := 0x1E) ((decodeOpcode_plain rfl).trans rfl) v rest
theorem RoundTrip.lsrAcc : RoundTrip.Statement (.lsrAcc) :=
  fun _ rest h => decode_noOperand (op := 0x4A) ((decodeOpcode_tierS (tierS_bound rfl h)).trans rfl) rest
theorem RoundTrip.lsrZp (v : Byte) : RoundTrip.Statement (.lsrZp v) :=
  fun _ rest h => decode_byteOperand (op := 0x46) ((decodeOpcode_tierS (tierS_bound rfl h)).trans rfl) v rest
theorem RoundTrip.lsrZpX (v : Byte) : RoundTrip.Statement (.lsrZpX v) :=
  fun _ rest h => decode_byteOperand (op := 0x56) ((decodeOpcode_tierS (tierS_bound rfl h)).trans rfl) v rest
theorem RoundTrip.lsrAbs (v : Addr) : RoundTrip.Statement (.lsrAbs v) :=
  fun _ rest h => decode_wordOperand (op := 0x4E) ((decodeOpcode_tierS (tierS_bound rfl h)).trans rfl) v rest
theorem RoundTrip.lsrAbsX (v : Addr) : RoundTrip.Statement (.lsrAbsX v) :=
  fun _ rest h => decode_wordOperand (op := 0x5E) ((decodeOpcode_tierS (tierS_bound rfl h)).trans rfl) v rest
theorem RoundTrip.rolAcc : RoundTrip.Statement (.rolAcc) :=
  fun _ rest _ => decode_noOperand (op := 0x2A) ((decodeOpcode_plain rfl).trans rfl) rest
theorem RoundTrip.rolZp (v : Byte) : RoundTrip.Statement (.rolZp v) :=
  fun _ rest _ => decode_byteOperand (op := 0x26) ((decodeOpcode_plain rfl).trans rfl) v rest
theorem RoundTrip.rolZpX (v : Byte) : RoundTrip.Statement (.rolZpX v) :=
  fun _ rest _ => decode_byteOperand (op := 0x36) ((decodeOpcode_plain rfl).trans rfl) v rest
theorem RoundTrip.rolAbs (v : Addr) : RoundTrip.Statement (.rolAbs v) :=
  fun _ rest _ => decode_wordOperand (op := 0x2E) ((decodeOpcode_plain rfl).trans rfl) v rest
theorem RoundTrip.rolAbsX (v : Addr) : RoundTrip.Statement (.rolAbsX v) :=
  fun _ rest _ => decode_wordOperand (op := 0x3E) ((decodeOpcode_plain rfl).trans rfl) v rest
theorem RoundTrip.rorAcc : RoundTrip.Statement (.rorAcc) :=
  fun _ rest _ => decode_noOperand (op := 0x6A) ((decodeOpcode_plain rfl).trans rfl) rest
theorem RoundTrip.rorZp (v : Byte) : RoundTrip.Statement (.rorZp v) :=
  fun _ rest _ => decode_byteOperand (op := 0x66) ((decodeOpcode_plain rfl).trans rfl) v rest
theorem RoundTrip.rorZpX (v : Byte) : RoundTrip.Statement (.rorZpX v) :=
  fun _ rest _ => decode_byteOperand (op := 0x76) ((decodeOpcode_plain rfl).trans rfl) v rest
theorem RoundTrip.rorAbs (v : Addr) : RoundTrip.Statement (.rorAbs v) :=
  fun _ rest _ => decode_wordOperand (op := 0x6E) ((decodeOpcode_plain rfl).trans rfl) v rest
theorem RoundTrip.rorAbsX (v : Addr) : RoundTrip.Statement (.rorAbsX v) :=
  fun _ rest _ => decode_wordOperand (op := 0x7E) ((decodeOpcode_plain rfl).trans rfl) v rest
theorem RoundTrip.incZp (v : Byte) : RoundTrip.Statement (.incZp v) :=
  fun _ rest _ => decode_byteOperand (op := 0xE6) ((decodeOpcode_plain rfl).trans rfl) v rest
theorem RoundTrip.incZpX (v : Byte) : RoundTrip.Statement (.incZpX v) :=
  fun _ rest _ => decode_byteOperand (op := 0xF6) ((decodeOpcode_plain rfl).trans rfl) v rest
theorem RoundTrip.incAbs (v : Addr) : RoundTrip.Statement (.incAbs v) :=
  fun _ rest _ => decode_wordOperand (op := 0xEE) ((decodeOpcode_plain rfl).trans rfl) v rest
theorem RoundTrip.incAbsX (v : Addr) : RoundTrip.Statement (.incAbsX v) :=
  fun _ rest _ => decode_wordOperand (op := 0xFE) ((decodeOpcode_plain rfl).trans rfl) v rest
theorem RoundTrip.decZp (v : Byte) : RoundTrip.Statement (.decZp v) :=
  fun _ rest _ => decode_byteOperand (op := 0xC6) ((decodeOpcode_plain rfl).trans rfl) v rest
theorem RoundTrip.decZpX (v : Byte) : RoundTrip.Statement (.decZpX v) :=
  fun _ rest _ => decode_byteOperand (op := 0xD6) ((decodeOpcode_plain rfl).trans rfl) v rest
theorem RoundTrip.decAbs (v : Addr) : RoundTrip.Statement (.decAbs v) :=
  fun _ rest _ => decode_wordOperand (op := 0xCE) ((decodeOpcode_plain rfl).trans rfl) v rest
theorem RoundTrip.decAbsX (v : Addr) : RoundTrip.Statement (.decAbsX v) :=
  fun _ rest _ => decode_wordOperand (op := 0xDE) ((decodeOpcode_plain rfl).trans rfl) v rest
theorem RoundTrip.inx : RoundTrip.Statement (.inx) :=
  fun _ rest h => decode_noOperand (op := 0xE8) ((decodeOpcode_tierS (tierS_bound rfl h)).trans rfl) rest
theorem RoundTrip.iny : RoundTrip.Statement (.iny) :=
  fun _ rest h => decode_noOperand (op := 0xC8) ((decodeOpcode_tierS (tierS_bound rfl h)).trans rfl) rest
theorem RoundTrip.dex : RoundTrip.Statement (.dex) :=
  fun _ rest h => decode_noOperand (op := 0xCA) ((decodeOpcode_tierS (tierS_bound rfl h)).trans rfl) rest
theorem RoundTrip.dey : RoundTrip.Statement (.dey) :=
  fun _ rest h => decode_noOperand (op := 0x88) ((decodeOpcode_tierS (tierS_bound rfl h)).trans rfl) rest
theorem RoundTrip.bpl (v : Byte) : RoundTrip.Statement (.bpl v) :=
  fun _ rest _ => decode_byteOperand (op := 0x10) ((decodeOpcode_plain rfl).trans rfl) v rest
theorem RoundTrip.bmi (v : Byte) : RoundTrip.Statement (.bmi v) :=
  fun _ rest _ => decode_byteOperand (op := 0x30) ((decodeOpcode_plain rfl).trans rfl) v rest
theorem RoundTrip.bvc (v : Byte) : RoundTrip.Statement (.bvc v) :=
  fun _ rest _ => decode_byteOperand (op := 0x50) ((decodeOpcode_plain rfl).trans rfl) v rest
theorem RoundTrip.bvs (v : Byte) : RoundTrip.Statement (.bvs v) :=
  fun _ rest _ => decode_byteOperand (op := 0x70) ((decodeOpcode_plain rfl).trans rfl) v rest
theorem RoundTrip.bcc (v : Byte) : RoundTrip.Statement (.bcc v) :=
  fun _ rest _ => decode_byteOperand (op := 0x90) ((decodeOpcode_plain rfl).trans rfl) v rest
theorem RoundTrip.bcs (v : Byte) : RoundTrip.Statement (.bcs v) :=
  fun _ rest _ => decode_byteOperand (op := 0xB0) ((decodeOpcode_plain rfl).trans rfl) v rest
theorem RoundTrip.bne (v : Byte) : RoundTrip.Statement (.bne v) :=
  fun _ rest _ => decode_byteOperand (op := 0xD0) ((decodeOpcode_plain rfl).trans rfl) v rest
theorem RoundTrip.beq (v : Byte) : RoundTrip.Statement (.beq v) :=
  fun _ rest _ => decode_byteOperand (op := 0xF0) ((decodeOpcode_plain rfl).trans rfl) v rest
theorem RoundTrip.jmpAbs (v : Addr) : RoundTrip.Statement (.jmpAbs v) :=
  fun _ rest _ => decode_wordOperand (op := 0x4C) ((decodeOpcode_plain rfl).trans rfl) v rest
theorem RoundTrip.jmpInd (v : Addr) : RoundTrip.Statement (.jmpInd v) :=
  fun _ rest _ => decode_wordOperand (op := 0x6C) ((decodeOpcode_plain rfl).trans rfl) v rest
theorem RoundTrip.jsr (v : Addr) : RoundTrip.Statement (.jsr v) :=
  fun _ rest _ => decode_wordOperand (op := 0x20) ((decodeOpcode_plain rfl).trans rfl) v rest
theorem RoundTrip.rts : RoundTrip.Statement (.rts) :=
  fun _ rest _ => decode_noOperand (op := 0x60) ((decodeOpcode_plain rfl).trans rfl) rest
theorem RoundTrip.tax : RoundTrip.Statement (.tax) :=
  fun _ rest _ => decode_noOperand (op := 0xAA) ((decodeOpcode_plain rfl).trans rfl) rest
theorem RoundTrip.txa : RoundTrip.Statement (.txa) :=
  fun _ rest _ => decode_noOperand (op := 0x8A) ((decodeOpcode_plain rfl).trans rfl) rest
theorem RoundTrip.tay : RoundTrip.Statement (.tay) :=
  fun _ rest _ => decode_noOperand (op := 0xA8) ((decodeOpcode_plain rfl).trans rfl) rest
theorem RoundTrip.tya : RoundTrip.Statement (.tya) :=
  fun _ rest _ => decode_noOperand (op := 0x98) ((decodeOpcode_plain rfl).trans rfl) rest
theorem RoundTrip.tsx : RoundTrip.Statement (.tsx) :=
  fun _ rest _ => decode_noOperand (op := 0xBA) ((decodeOpcode_plain rfl).trans rfl) rest
theorem RoundTrip.txs : RoundTrip.Statement (.txs) :=
  fun _ rest _ => decode_noOperand (op := 0x9A) ((decodeOpcode_plain rfl).trans rfl) rest
theorem RoundTrip.clc : RoundTrip.Statement (.clc) :=
  fun _ rest _ => decode_noOperand (op := 0x18) ((decodeOpcode_plain rfl).trans rfl) rest
theorem RoundTrip.sec : RoundTrip.Statement (.sec) :=
  fun _ rest _ => decode_noOperand (op := 0x38) ((decodeOpcode_plain rfl).trans rfl) rest
theorem RoundTrip.cli : RoundTrip.Statement (.cli) :=
  fun _ rest _ => decode_noOperand (op := 0x58) ((decodeOpcode_plain rfl).trans rfl) rest
theorem RoundTrip.sei : RoundTrip.Statement (.sei) :=
  fun _ rest _ => decode_noOperand (op := 0x78) ((decodeOpcode_plain rfl).trans rfl) rest
theorem RoundTrip.clv : RoundTrip.Statement (.clv) :=
  fun _ rest _ => decode_noOperand (op := 0xB8) ((decodeOpcode_plain rfl).trans rfl) rest
theorem RoundTrip.cld : RoundTrip.Statement (.cld) :=
  fun _ rest _ => decode_noOperand (op := 0xD8) ((decodeOpcode_plain rfl).trans rfl) rest
theorem RoundTrip.sed : RoundTrip.Statement (.sed) :=
  fun _ rest _ => decode_noOperand (op := 0xF8) ((decodeOpcode_plain rfl).trans rfl) rest
theorem RoundTrip.pha : RoundTrip.Statement (.pha) :=
  fun _ rest _ => decode_noOperand (op := 0x48) ((decodeOpcode_plain rfl).trans rfl) rest
theorem RoundTrip.pla : RoundTrip.Statement (.pla) :=
  fun _ rest _ => decode_noOperand (op := 0x68) ((decodeOpcode_plain rfl).trans rfl) rest
theorem RoundTrip.php : RoundTrip.Statement (.php) :=
  fun _ rest _ => decode_noOperand (op := 0x08) ((decodeOpcode_plain rfl).trans rfl) rest
theorem RoundTrip.plp : RoundTrip.Statement (.plp) :=
  fun _ rest _ => decode_noOperand (op := 0x28) ((decodeOpcode_plain rfl).trans rfl) rest
theorem RoundTrip.nop : RoundTrip.Statement (.nop) :=
  fun _ rest _ => decode_noOperand (op := 0xEA) ((decodeOpcode_plain rfl).trans rfl) rest
theorem RoundTrip.brk : RoundTrip.Statement (.brk) :=
  fun _ rest _ => decode_noOperand (op := 0x00) ((decodeOpcode_plain rfl).trans rfl) rest
theorem RoundTrip.rti : RoundTrip.Statement (.rti) :=
  fun _ rest _ => decode_noOperand (op := 0x40) ((decodeOpcode_plain rfl).trans rfl) rest
theorem RoundTrip.wai : RoundTrip.Statement (.wai) :=
  fun _ rest h => decode_noOperand (op := 0xCB) ((decodeOpcode_tierS (tierS_bound rfl h)).trans rfl) rest

theorem Length.ldaImm (v : Byte) : Length.Statement (.ldaImm v) :=
  ⟨rfl, _, (rfl : matrix 0xA9 = some (.byteOperand .ldaImm)), rfl⟩
theorem Length.ldaZp (v : Byte) : Length.Statement (.ldaZp v) :=
  ⟨rfl, _, (rfl : matrix 0xA5 = some (.byteOperand .ldaZp)), rfl⟩
theorem Length.ldaZpX (v : Byte) : Length.Statement (.ldaZpX v) :=
  ⟨rfl, _, (rfl : matrix 0xB5 = some (.byteOperand .ldaZpX)), rfl⟩
theorem Length.ldaAbs (v : Addr) : Length.Statement (.ldaAbs v) :=
  ⟨rfl, _, (rfl : matrix 0xAD = some (.wordOperand .ldaAbs)), rfl⟩
theorem Length.ldaAbsX (v : Addr) : Length.Statement (.ldaAbsX v) :=
  ⟨rfl, _, (rfl : matrix 0xBD = some (.wordOperand .ldaAbsX)), rfl⟩
theorem Length.ldaAbsY (v : Addr) : Length.Statement (.ldaAbsY v) :=
  ⟨rfl, _, (rfl : matrix 0xB9 = some (.wordOperand .ldaAbsY)), rfl⟩
theorem Length.ldaIndX (v : Byte) : Length.Statement (.ldaIndX v) :=
  ⟨rfl, _, (rfl : matrix 0xA1 = some (.byteOperand .ldaIndX)), rfl⟩
theorem Length.ldaIndY (v : Byte) : Length.Statement (.ldaIndY v) :=
  ⟨rfl, _, (rfl : matrix 0xB1 = some (.byteOperand .ldaIndY)), rfl⟩
theorem Length.ldxImm (v : Byte) : Length.Statement (.ldxImm v) :=
  ⟨rfl, _, (rfl : matrix 0xA2 = some (.byteOperand .ldxImm)), rfl⟩
theorem Length.ldxZp (v : Byte) : Length.Statement (.ldxZp v) :=
  ⟨rfl, _, (rfl : matrix 0xA6 = some (.byteOperand .ldxZp)), rfl⟩
theorem Length.ldxZpY (v : Byte) : Length.Statement (.ldxZpY v) :=
  ⟨rfl, _, (rfl : matrix 0xB6 = some (.byteOperand .ldxZpY)), rfl⟩
theorem Length.ldxAbs (v : Addr) : Length.Statement (.ldxAbs v) :=
  ⟨rfl, _, (rfl : matrix 0xAE = some (.wordOperand .ldxAbs)), rfl⟩
theorem Length.ldxAbsY (v : Addr) : Length.Statement (.ldxAbsY v) :=
  ⟨rfl, _, (rfl : matrix 0xBE = some (.wordOperand .ldxAbsY)), rfl⟩
theorem Length.ldyImm (v : Byte) : Length.Statement (.ldyImm v) :=
  ⟨rfl, _, (rfl : matrix 0xA0 = some (.byteOperand .ldyImm)), rfl⟩
theorem Length.ldyZp (v : Byte) : Length.Statement (.ldyZp v) :=
  ⟨rfl, _, (rfl : matrix 0xA4 = some (.byteOperand .ldyZp)), rfl⟩
theorem Length.ldyZpX (v : Byte) : Length.Statement (.ldyZpX v) :=
  ⟨rfl, _, (rfl : matrix 0xB4 = some (.byteOperand .ldyZpX)), rfl⟩
theorem Length.ldyAbs (v : Addr) : Length.Statement (.ldyAbs v) :=
  ⟨rfl, _, (rfl : matrix 0xAC = some (.wordOperand .ldyAbs)), rfl⟩
theorem Length.ldyAbsX (v : Addr) : Length.Statement (.ldyAbsX v) :=
  ⟨rfl, _, (rfl : matrix 0xBC = some (.wordOperand .ldyAbsX)), rfl⟩
theorem Length.staZp (v : Byte) : Length.Statement (.staZp v) :=
  ⟨rfl, _, (rfl : matrix 0x85 = some (.byteOperand .staZp)), rfl⟩
theorem Length.staZpX (v : Byte) : Length.Statement (.staZpX v) :=
  ⟨rfl, _, (rfl : matrix 0x95 = some (.byteOperand .staZpX)), rfl⟩
theorem Length.staAbs (v : Addr) : Length.Statement (.staAbs v) :=
  ⟨rfl, _, (rfl : matrix 0x8D = some (.wordOperand .staAbs)), rfl⟩
theorem Length.staAbsX (v : Addr) : Length.Statement (.staAbsX v) :=
  ⟨rfl, _, (rfl : matrix 0x9D = some (.wordOperand .staAbsX)), rfl⟩
theorem Length.staAbsY (v : Addr) : Length.Statement (.staAbsY v) :=
  ⟨rfl, _, (rfl : matrix 0x99 = some (.wordOperand .staAbsY)), rfl⟩
theorem Length.staIndX (v : Byte) : Length.Statement (.staIndX v) :=
  ⟨rfl, _, (rfl : matrix 0x81 = some (.byteOperand .staIndX)), rfl⟩
theorem Length.staIndY (v : Byte) : Length.Statement (.staIndY v) :=
  ⟨rfl, _, (rfl : matrix 0x91 = some (.byteOperand .staIndY)), rfl⟩
theorem Length.stxZp (v : Byte) : Length.Statement (.stxZp v) :=
  ⟨rfl, _, (rfl : matrix 0x86 = some (.byteOperand .stxZp)), rfl⟩
theorem Length.stxZpY (v : Byte) : Length.Statement (.stxZpY v) :=
  ⟨rfl, _, (rfl : matrix 0x96 = some (.byteOperand .stxZpY)), rfl⟩
theorem Length.stxAbs (v : Addr) : Length.Statement (.stxAbs v) :=
  ⟨rfl, _, (rfl : matrix 0x8E = some (.wordOperand .stxAbs)), rfl⟩
theorem Length.styZp (v : Byte) : Length.Statement (.styZp v) :=
  ⟨rfl, _, (rfl : matrix 0x84 = some (.byteOperand .styZp)), rfl⟩
theorem Length.styZpX (v : Byte) : Length.Statement (.styZpX v) :=
  ⟨rfl, _, (rfl : matrix 0x94 = some (.byteOperand .styZpX)), rfl⟩
theorem Length.styAbs (v : Addr) : Length.Statement (.styAbs v) :=
  ⟨rfl, _, (rfl : matrix 0x8C = some (.wordOperand .styAbs)), rfl⟩
theorem Length.oraImm (v : Byte) : Length.Statement (.oraImm v) :=
  ⟨rfl, _, (rfl : matrix 0x09 = some (.byteOperand .oraImm)), rfl⟩
theorem Length.oraZp (v : Byte) : Length.Statement (.oraZp v) :=
  ⟨rfl, _, (rfl : matrix 0x05 = some (.byteOperand .oraZp)), rfl⟩
theorem Length.oraZpX (v : Byte) : Length.Statement (.oraZpX v) :=
  ⟨rfl, _, (rfl : matrix 0x15 = some (.byteOperand .oraZpX)), rfl⟩
theorem Length.oraAbs (v : Addr) : Length.Statement (.oraAbs v) :=
  ⟨rfl, _, (rfl : matrix 0x0D = some (.wordOperand .oraAbs)), rfl⟩
theorem Length.oraAbsX (v : Addr) : Length.Statement (.oraAbsX v) :=
  ⟨rfl, _, (rfl : matrix 0x1D = some (.wordOperand .oraAbsX)), rfl⟩
theorem Length.oraAbsY (v : Addr) : Length.Statement (.oraAbsY v) :=
  ⟨rfl, _, (rfl : matrix 0x19 = some (.wordOperand .oraAbsY)), rfl⟩
theorem Length.oraIndX (v : Byte) : Length.Statement (.oraIndX v) :=
  ⟨rfl, _, (rfl : matrix 0x01 = some (.byteOperand .oraIndX)), rfl⟩
theorem Length.oraIndY (v : Byte) : Length.Statement (.oraIndY v) :=
  ⟨rfl, _, (rfl : matrix 0x11 = some (.byteOperand .oraIndY)), rfl⟩
theorem Length.andImm (v : Byte) : Length.Statement (.andImm v) :=
  ⟨rfl, _, (rfl : matrix 0x29 = some (.byteOperand .andImm)), rfl⟩
theorem Length.andZp (v : Byte) : Length.Statement (.andZp v) :=
  ⟨rfl, _, (rfl : matrix 0x25 = some (.byteOperand .andZp)), rfl⟩
theorem Length.andZpX (v : Byte) : Length.Statement (.andZpX v) :=
  ⟨rfl, _, (rfl : matrix 0x35 = some (.byteOperand .andZpX)), rfl⟩
theorem Length.andAbs (v : Addr) : Length.Statement (.andAbs v) :=
  ⟨rfl, _, (rfl : matrix 0x2D = some (.wordOperand .andAbs)), rfl⟩
theorem Length.andAbsX (v : Addr) : Length.Statement (.andAbsX v) :=
  ⟨rfl, _, (rfl : matrix 0x3D = some (.wordOperand .andAbsX)), rfl⟩
theorem Length.andAbsY (v : Addr) : Length.Statement (.andAbsY v) :=
  ⟨rfl, _, (rfl : matrix 0x39 = some (.wordOperand .andAbsY)), rfl⟩
theorem Length.andIndX (v : Byte) : Length.Statement (.andIndX v) :=
  ⟨rfl, _, (rfl : matrix 0x21 = some (.byteOperand .andIndX)), rfl⟩
theorem Length.andIndY (v : Byte) : Length.Statement (.andIndY v) :=
  ⟨rfl, _, (rfl : matrix 0x31 = some (.byteOperand .andIndY)), rfl⟩
theorem Length.eorImm (v : Byte) : Length.Statement (.eorImm v) :=
  ⟨rfl, _, (rfl : matrix 0x49 = some (.byteOperand .eorImm)), rfl⟩
theorem Length.eorZp (v : Byte) : Length.Statement (.eorZp v) :=
  ⟨rfl, _, (rfl : matrix 0x45 = some (.byteOperand .eorZp)), rfl⟩
theorem Length.eorZpX (v : Byte) : Length.Statement (.eorZpX v) :=
  ⟨rfl, _, (rfl : matrix 0x55 = some (.byteOperand .eorZpX)), rfl⟩
theorem Length.eorAbs (v : Addr) : Length.Statement (.eorAbs v) :=
  ⟨rfl, _, (rfl : matrix 0x4D = some (.wordOperand .eorAbs)), rfl⟩
theorem Length.eorAbsX (v : Addr) : Length.Statement (.eorAbsX v) :=
  ⟨rfl, _, (rfl : matrix 0x5D = some (.wordOperand .eorAbsX)), rfl⟩
theorem Length.eorAbsY (v : Addr) : Length.Statement (.eorAbsY v) :=
  ⟨rfl, _, (rfl : matrix 0x59 = some (.wordOperand .eorAbsY)), rfl⟩
theorem Length.eorIndX (v : Byte) : Length.Statement (.eorIndX v) :=
  ⟨rfl, _, (rfl : matrix 0x41 = some (.byteOperand .eorIndX)), rfl⟩
theorem Length.eorIndY (v : Byte) : Length.Statement (.eorIndY v) :=
  ⟨rfl, _, (rfl : matrix 0x51 = some (.byteOperand .eorIndY)), rfl⟩
theorem Length.adcImm (v : Byte) : Length.Statement (.adcImm v) :=
  ⟨rfl, _, (rfl : matrix 0x69 = some (.byteOperand .adcImm)), rfl⟩
theorem Length.adcZp (v : Byte) : Length.Statement (.adcZp v) :=
  ⟨rfl, _, (rfl : matrix 0x65 = some (.byteOperand .adcZp)), rfl⟩
theorem Length.adcZpX (v : Byte) : Length.Statement (.adcZpX v) :=
  ⟨rfl, _, (rfl : matrix 0x75 = some (.byteOperand .adcZpX)), rfl⟩
theorem Length.adcAbs (v : Addr) : Length.Statement (.adcAbs v) :=
  ⟨rfl, _, (rfl : matrix 0x6D = some (.wordOperand .adcAbs)), rfl⟩
theorem Length.adcAbsX (v : Addr) : Length.Statement (.adcAbsX v) :=
  ⟨rfl, _, (rfl : matrix 0x7D = some (.wordOperand .adcAbsX)), rfl⟩
theorem Length.adcAbsY (v : Addr) : Length.Statement (.adcAbsY v) :=
  ⟨rfl, _, (rfl : matrix 0x79 = some (.wordOperand .adcAbsY)), rfl⟩
theorem Length.adcIndX (v : Byte) : Length.Statement (.adcIndX v) :=
  ⟨rfl, _, (rfl : matrix 0x61 = some (.byteOperand .adcIndX)), rfl⟩
theorem Length.adcIndY (v : Byte) : Length.Statement (.adcIndY v) :=
  ⟨rfl, _, (rfl : matrix 0x71 = some (.byteOperand .adcIndY)), rfl⟩
theorem Length.sbcImm (v : Byte) : Length.Statement (.sbcImm v) :=
  ⟨rfl, _, (rfl : matrix 0xE9 = some (.byteOperand .sbcImm)), rfl⟩
theorem Length.sbcZp (v : Byte) : Length.Statement (.sbcZp v) :=
  ⟨rfl, _, (rfl : matrix 0xE5 = some (.byteOperand .sbcZp)), rfl⟩
theorem Length.sbcZpX (v : Byte) : Length.Statement (.sbcZpX v) :=
  ⟨rfl, _, (rfl : matrix 0xF5 = some (.byteOperand .sbcZpX)), rfl⟩
theorem Length.sbcAbs (v : Addr) : Length.Statement (.sbcAbs v) :=
  ⟨rfl, _, (rfl : matrix 0xED = some (.wordOperand .sbcAbs)), rfl⟩
theorem Length.sbcAbsX (v : Addr) : Length.Statement (.sbcAbsX v) :=
  ⟨rfl, _, (rfl : matrix 0xFD = some (.wordOperand .sbcAbsX)), rfl⟩
theorem Length.sbcAbsY (v : Addr) : Length.Statement (.sbcAbsY v) :=
  ⟨rfl, _, (rfl : matrix 0xF9 = some (.wordOperand .sbcAbsY)), rfl⟩
theorem Length.sbcIndX (v : Byte) : Length.Statement (.sbcIndX v) :=
  ⟨rfl, _, (rfl : matrix 0xE1 = some (.byteOperand .sbcIndX)), rfl⟩
theorem Length.sbcIndY (v : Byte) : Length.Statement (.sbcIndY v) :=
  ⟨rfl, _, (rfl : matrix 0xF1 = some (.byteOperand .sbcIndY)), rfl⟩
theorem Length.cmpImm (v : Byte) : Length.Statement (.cmpImm v) :=
  ⟨rfl, _, (rfl : matrix 0xC9 = some (.byteOperand .cmpImm)), rfl⟩
theorem Length.cmpZp (v : Byte) : Length.Statement (.cmpZp v) :=
  ⟨rfl, _, (rfl : matrix 0xC5 = some (.byteOperand .cmpZp)), rfl⟩
theorem Length.cmpZpX (v : Byte) : Length.Statement (.cmpZpX v) :=
  ⟨rfl, _, (rfl : matrix 0xD5 = some (.byteOperand .cmpZpX)), rfl⟩
theorem Length.cmpAbs (v : Addr) : Length.Statement (.cmpAbs v) :=
  ⟨rfl, _, (rfl : matrix 0xCD = some (.wordOperand .cmpAbs)), rfl⟩
theorem Length.cmpAbsX (v : Addr) : Length.Statement (.cmpAbsX v) :=
  ⟨rfl, _, (rfl : matrix 0xDD = some (.wordOperand .cmpAbsX)), rfl⟩
theorem Length.cmpAbsY (v : Addr) : Length.Statement (.cmpAbsY v) :=
  ⟨rfl, _, (rfl : matrix 0xD9 = some (.wordOperand .cmpAbsY)), rfl⟩
theorem Length.cmpIndX (v : Byte) : Length.Statement (.cmpIndX v) :=
  ⟨rfl, _, (rfl : matrix 0xC1 = some (.byteOperand .cmpIndX)), rfl⟩
theorem Length.cmpIndY (v : Byte) : Length.Statement (.cmpIndY v) :=
  ⟨rfl, _, (rfl : matrix 0xD1 = some (.byteOperand .cmpIndY)), rfl⟩
theorem Length.cpxImm (v : Byte) : Length.Statement (.cpxImm v) :=
  ⟨rfl, _, (rfl : matrix 0xE0 = some (.byteOperand .cpxImm)), rfl⟩
theorem Length.cpxZp (v : Byte) : Length.Statement (.cpxZp v) :=
  ⟨rfl, _, (rfl : matrix 0xE4 = some (.byteOperand .cpxZp)), rfl⟩
theorem Length.cpxAbs (v : Addr) : Length.Statement (.cpxAbs v) :=
  ⟨rfl, _, (rfl : matrix 0xEC = some (.wordOperand .cpxAbs)), rfl⟩
theorem Length.cpyImm (v : Byte) : Length.Statement (.cpyImm v) :=
  ⟨rfl, _, (rfl : matrix 0xC0 = some (.byteOperand .cpyImm)), rfl⟩
theorem Length.cpyZp (v : Byte) : Length.Statement (.cpyZp v) :=
  ⟨rfl, _, (rfl : matrix 0xC4 = some (.byteOperand .cpyZp)), rfl⟩
theorem Length.cpyAbs (v : Addr) : Length.Statement (.cpyAbs v) :=
  ⟨rfl, _, (rfl : matrix 0xCC = some (.wordOperand .cpyAbs)), rfl⟩
theorem Length.bitZp (v : Byte) : Length.Statement (.bitZp v) :=
  ⟨rfl, _, (rfl : matrix 0x24 = some (.byteOperand .bitZp)), rfl⟩
theorem Length.bitAbs (v : Addr) : Length.Statement (.bitAbs v) :=
  ⟨rfl, _, (rfl : matrix 0x2C = some (.wordOperand .bitAbs)), rfl⟩
theorem Length.aslAcc : Length.Statement (.aslAcc) :=
  ⟨rfl, _, (rfl : matrix 0x0A = some (.noOperand .aslAcc)), rfl⟩
theorem Length.aslZp (v : Byte) : Length.Statement (.aslZp v) :=
  ⟨rfl, _, (rfl : matrix 0x06 = some (.byteOperand .aslZp)), rfl⟩
theorem Length.aslZpX (v : Byte) : Length.Statement (.aslZpX v) :=
  ⟨rfl, _, (rfl : matrix 0x16 = some (.byteOperand .aslZpX)), rfl⟩
theorem Length.aslAbs (v : Addr) : Length.Statement (.aslAbs v) :=
  ⟨rfl, _, (rfl : matrix 0x0E = some (.wordOperand .aslAbs)), rfl⟩
theorem Length.aslAbsX (v : Addr) : Length.Statement (.aslAbsX v) :=
  ⟨rfl, _, (rfl : matrix 0x1E = some (.wordOperand .aslAbsX)), rfl⟩
theorem Length.lsrAcc : Length.Statement (.lsrAcc) :=
  ⟨rfl, _, (rfl : matrix 0x4A = some (.noOperand .lsrAcc)), rfl⟩
theorem Length.lsrZp (v : Byte) : Length.Statement (.lsrZp v) :=
  ⟨rfl, _, (rfl : matrix 0x46 = some (.byteOperand .lsrZp)), rfl⟩
theorem Length.lsrZpX (v : Byte) : Length.Statement (.lsrZpX v) :=
  ⟨rfl, _, (rfl : matrix 0x56 = some (.byteOperand .lsrZpX)), rfl⟩
theorem Length.lsrAbs (v : Addr) : Length.Statement (.lsrAbs v) :=
  ⟨rfl, _, (rfl : matrix 0x4E = some (.wordOperand .lsrAbs)), rfl⟩
theorem Length.lsrAbsX (v : Addr) : Length.Statement (.lsrAbsX v) :=
  ⟨rfl, _, (rfl : matrix 0x5E = some (.wordOperand .lsrAbsX)), rfl⟩
theorem Length.rolAcc : Length.Statement (.rolAcc) :=
  ⟨rfl, _, (rfl : matrix 0x2A = some (.noOperand .rolAcc)), rfl⟩
theorem Length.rolZp (v : Byte) : Length.Statement (.rolZp v) :=
  ⟨rfl, _, (rfl : matrix 0x26 = some (.byteOperand .rolZp)), rfl⟩
theorem Length.rolZpX (v : Byte) : Length.Statement (.rolZpX v) :=
  ⟨rfl, _, (rfl : matrix 0x36 = some (.byteOperand .rolZpX)), rfl⟩
theorem Length.rolAbs (v : Addr) : Length.Statement (.rolAbs v) :=
  ⟨rfl, _, (rfl : matrix 0x2E = some (.wordOperand .rolAbs)), rfl⟩
theorem Length.rolAbsX (v : Addr) : Length.Statement (.rolAbsX v) :=
  ⟨rfl, _, (rfl : matrix 0x3E = some (.wordOperand .rolAbsX)), rfl⟩
theorem Length.rorAcc : Length.Statement (.rorAcc) :=
  ⟨rfl, _, (rfl : matrix 0x6A = some (.noOperand .rorAcc)), rfl⟩
theorem Length.rorZp (v : Byte) : Length.Statement (.rorZp v) :=
  ⟨rfl, _, (rfl : matrix 0x66 = some (.byteOperand .rorZp)), rfl⟩
theorem Length.rorZpX (v : Byte) : Length.Statement (.rorZpX v) :=
  ⟨rfl, _, (rfl : matrix 0x76 = some (.byteOperand .rorZpX)), rfl⟩
theorem Length.rorAbs (v : Addr) : Length.Statement (.rorAbs v) :=
  ⟨rfl, _, (rfl : matrix 0x6E = some (.wordOperand .rorAbs)), rfl⟩
theorem Length.rorAbsX (v : Addr) : Length.Statement (.rorAbsX v) :=
  ⟨rfl, _, (rfl : matrix 0x7E = some (.wordOperand .rorAbsX)), rfl⟩
theorem Length.incZp (v : Byte) : Length.Statement (.incZp v) :=
  ⟨rfl, _, (rfl : matrix 0xE6 = some (.byteOperand .incZp)), rfl⟩
theorem Length.incZpX (v : Byte) : Length.Statement (.incZpX v) :=
  ⟨rfl, _, (rfl : matrix 0xF6 = some (.byteOperand .incZpX)), rfl⟩
theorem Length.incAbs (v : Addr) : Length.Statement (.incAbs v) :=
  ⟨rfl, _, (rfl : matrix 0xEE = some (.wordOperand .incAbs)), rfl⟩
theorem Length.incAbsX (v : Addr) : Length.Statement (.incAbsX v) :=
  ⟨rfl, _, (rfl : matrix 0xFE = some (.wordOperand .incAbsX)), rfl⟩
theorem Length.decZp (v : Byte) : Length.Statement (.decZp v) :=
  ⟨rfl, _, (rfl : matrix 0xC6 = some (.byteOperand .decZp)), rfl⟩
theorem Length.decZpX (v : Byte) : Length.Statement (.decZpX v) :=
  ⟨rfl, _, (rfl : matrix 0xD6 = some (.byteOperand .decZpX)), rfl⟩
theorem Length.decAbs (v : Addr) : Length.Statement (.decAbs v) :=
  ⟨rfl, _, (rfl : matrix 0xCE = some (.wordOperand .decAbs)), rfl⟩
theorem Length.decAbsX (v : Addr) : Length.Statement (.decAbsX v) :=
  ⟨rfl, _, (rfl : matrix 0xDE = some (.wordOperand .decAbsX)), rfl⟩
theorem Length.inx : Length.Statement (.inx) :=
  ⟨rfl, _, (rfl : matrix 0xE8 = some (.noOperand .inx)), rfl⟩
theorem Length.iny : Length.Statement (.iny) :=
  ⟨rfl, _, (rfl : matrix 0xC8 = some (.noOperand .iny)), rfl⟩
theorem Length.dex : Length.Statement (.dex) :=
  ⟨rfl, _, (rfl : matrix 0xCA = some (.noOperand .dex)), rfl⟩
theorem Length.dey : Length.Statement (.dey) :=
  ⟨rfl, _, (rfl : matrix 0x88 = some (.noOperand .dey)), rfl⟩
theorem Length.bpl (v : Byte) : Length.Statement (.bpl v) :=
  ⟨rfl, _, (rfl : matrix 0x10 = some (.byteOperand .bpl)), rfl⟩
theorem Length.bmi (v : Byte) : Length.Statement (.bmi v) :=
  ⟨rfl, _, (rfl : matrix 0x30 = some (.byteOperand .bmi)), rfl⟩
theorem Length.bvc (v : Byte) : Length.Statement (.bvc v) :=
  ⟨rfl, _, (rfl : matrix 0x50 = some (.byteOperand .bvc)), rfl⟩
theorem Length.bvs (v : Byte) : Length.Statement (.bvs v) :=
  ⟨rfl, _, (rfl : matrix 0x70 = some (.byteOperand .bvs)), rfl⟩
theorem Length.bcc (v : Byte) : Length.Statement (.bcc v) :=
  ⟨rfl, _, (rfl : matrix 0x90 = some (.byteOperand .bcc)), rfl⟩
theorem Length.bcs (v : Byte) : Length.Statement (.bcs v) :=
  ⟨rfl, _, (rfl : matrix 0xB0 = some (.byteOperand .bcs)), rfl⟩
theorem Length.bne (v : Byte) : Length.Statement (.bne v) :=
  ⟨rfl, _, (rfl : matrix 0xD0 = some (.byteOperand .bne)), rfl⟩
theorem Length.beq (v : Byte) : Length.Statement (.beq v) :=
  ⟨rfl, _, (rfl : matrix 0xF0 = some (.byteOperand .beq)), rfl⟩
theorem Length.jmpAbs (v : Addr) : Length.Statement (.jmpAbs v) :=
  ⟨rfl, _, (rfl : matrix 0x4C = some (.wordOperand .jmpAbs)), rfl⟩
theorem Length.jmpInd (v : Addr) : Length.Statement (.jmpInd v) :=
  ⟨rfl, _, (rfl : matrix 0x6C = some (.wordOperand .jmpInd)), rfl⟩
theorem Length.jsr (v : Addr) : Length.Statement (.jsr v) :=
  ⟨rfl, _, (rfl : matrix 0x20 = some (.wordOperand .jsr)), rfl⟩
theorem Length.rts : Length.Statement (.rts) :=
  ⟨rfl, _, (rfl : matrix 0x60 = some (.noOperand .rts)), rfl⟩
theorem Length.tax : Length.Statement (.tax) :=
  ⟨rfl, _, (rfl : matrix 0xAA = some (.noOperand .tax)), rfl⟩
theorem Length.txa : Length.Statement (.txa) :=
  ⟨rfl, _, (rfl : matrix 0x8A = some (.noOperand .txa)), rfl⟩
theorem Length.tay : Length.Statement (.tay) :=
  ⟨rfl, _, (rfl : matrix 0xA8 = some (.noOperand .tay)), rfl⟩
theorem Length.tya : Length.Statement (.tya) :=
  ⟨rfl, _, (rfl : matrix 0x98 = some (.noOperand .tya)), rfl⟩
theorem Length.tsx : Length.Statement (.tsx) :=
  ⟨rfl, _, (rfl : matrix 0xBA = some (.noOperand .tsx)), rfl⟩
theorem Length.txs : Length.Statement (.txs) :=
  ⟨rfl, _, (rfl : matrix 0x9A = some (.noOperand .txs)), rfl⟩
theorem Length.clc : Length.Statement (.clc) :=
  ⟨rfl, _, (rfl : matrix 0x18 = some (.noOperand .clc)), rfl⟩
theorem Length.sec : Length.Statement (.sec) :=
  ⟨rfl, _, (rfl : matrix 0x38 = some (.noOperand .sec)), rfl⟩
theorem Length.cli : Length.Statement (.cli) :=
  ⟨rfl, _, (rfl : matrix 0x58 = some (.noOperand .cli)), rfl⟩
theorem Length.sei : Length.Statement (.sei) :=
  ⟨rfl, _, (rfl : matrix 0x78 = some (.noOperand .sei)), rfl⟩
theorem Length.clv : Length.Statement (.clv) :=
  ⟨rfl, _, (rfl : matrix 0xB8 = some (.noOperand .clv)), rfl⟩
theorem Length.cld : Length.Statement (.cld) :=
  ⟨rfl, _, (rfl : matrix 0xD8 = some (.noOperand .cld)), rfl⟩
theorem Length.sed : Length.Statement (.sed) :=
  ⟨rfl, _, (rfl : matrix 0xF8 = some (.noOperand .sed)), rfl⟩
theorem Length.pha : Length.Statement (.pha) :=
  ⟨rfl, _, (rfl : matrix 0x48 = some (.noOperand .pha)), rfl⟩
theorem Length.pla : Length.Statement (.pla) :=
  ⟨rfl, _, (rfl : matrix 0x68 = some (.noOperand .pla)), rfl⟩
theorem Length.php : Length.Statement (.php) :=
  ⟨rfl, _, (rfl : matrix 0x08 = some (.noOperand .php)), rfl⟩
theorem Length.plp : Length.Statement (.plp) :=
  ⟨rfl, _, (rfl : matrix 0x28 = some (.noOperand .plp)), rfl⟩
theorem Length.nop : Length.Statement (.nop) :=
  ⟨rfl, _, (rfl : matrix 0xEA = some (.noOperand .nop)), rfl⟩
theorem Length.brk : Length.Statement (.brk) :=
  ⟨rfl, _, (rfl : matrix 0x00 = some (.noOperand .brk)), rfl⟩
theorem Length.rti : Length.Statement (.rti) :=
  ⟨rfl, _, (rfl : matrix 0x40 = some (.noOperand .rti)), rfl⟩
theorem Length.wai : Length.Statement (.wai) :=
  ⟨rfl, _, (rfl : matrix 0xCB = some (.noOperand .wai)), rfl⟩

end Sys2Proof.Laws
end

