-- ==== Sys2Proof/Laws/Step.lean ====
section
/-!
SUPPORT. What an input, a fetch and a step can do, said once: the inversion lemma of `step`, and the
fields each of them keeps.
-/

namespace Sys2Proof.Machine

/-! ### Inputs -/

section
variable (s : State)

@[simp] theorem wake_a  : (wake s).a = s.a := by unfold wake; split <;> rfl
@[simp] theorem wake_x  : (wake s).x = s.x := by unfold wake; split <;> rfl
@[simp] theorem wake_y  : (wake s).y = s.y := by unfold wake; split <;> rfl
@[simp] theorem wake_sp  : (wake s).sp = s.sp := by unfold wake; split <;> rfl
@[simp] theorem wake_p  : (wake s).p = s.p := by unfold wake; split <;> rfl
@[simp] theorem wake_pc  : (wake s).pc = s.pc := by unfold wake; split <;> rfl
@[simp] theorem wake_pending  : (wake s).pending = s.pending := by unfold wake; split <;> rfl
@[simp] theorem wake_executed  : (wake s).executed = s.executed := by unfold wake; split <;> rfl
@[simp] theorem wake_fault  : (wake s).fault = s.fault := by unfold wake; split <;> rfl
@[simp] theorem wake_mem  : (wake s).mem = s.mem := by unfold wake; split <;> rfl
@[simp] theorem wake_portLog  : (wake s).portLog = s.portLog := by unfold wake; split <;> rfl
@[simp] theorem wake_hostReads  : (wake s).hostReads = s.hostReads := by unfold wake; split <;> rfl
@[simp] theorem wake_schedule  : (wake s).schedule = s.schedule := by unfold wake; split <;> rfl
@[simp] theorem wake_config  : (wake s).config = s.config := by unfold wake; split <;> rfl

@[simp] theorem applyInput_pc (i : HostInput) : (applyInput s i).pc = s.pc := by unfold applyInput; split <;> (try cases i) <;> simp [inputReset, inputIrq, inputNmi, inputStart, inputPause, requestIrq, requestNmi, writeFlag_eq]
@[simp] theorem applyInput_executed (i : HostInput) : (applyInput s i).executed = s.executed := by unfold applyInput; split <;> (try cases i) <;> simp [inputReset, inputIrq, inputNmi, inputStart, inputPause, requestIrq, requestNmi, writeFlag_eq]
@[simp] theorem applyInput_fault (i : HostInput) : (applyInput s i).fault = s.fault := by unfold applyInput; split <;> (try cases i) <;> simp [inputReset, inputIrq, inputNmi, inputStart, inputPause, requestIrq, requestNmi, writeFlag_eq]
@[simp] theorem applyInput_mem (i : HostInput) : (applyInput s i).mem = s.mem := by unfold applyInput; split <;> (try cases i) <;> simp [inputReset, inputIrq, inputNmi, inputStart, inputPause, requestIrq, requestNmi, writeFlag_eq]
@[simp] theorem applyInput_portLog (i : HostInput) : (applyInput s i).portLog = s.portLog := by unfold applyInput; split <;> (try cases i) <;> simp [inputReset, inputIrq, inputNmi, inputStart, inputPause, requestIrq, requestNmi, writeFlag_eq]
@[simp] theorem applyInput_hostReads (i : HostInput) : (applyInput s i).hostReads = s.hostReads := by unfold applyInput; split <;> (try cases i) <;> simp [inputReset, inputIrq, inputNmi, inputStart, inputPause, requestIrq, requestNmi, writeFlag_eq]
@[simp] theorem applyInput_schedule (i : HostInput) : (applyInput s i).schedule = s.schedule := by unfold applyInput; split <;> (try cases i) <;> simp [inputReset, inputIrq, inputNmi, inputStart, inputPause, requestIrq, requestNmi, writeFlag_eq]
@[simp] theorem applyInput_config (i : HostInput) : (applyInput s i).config = s.config := by unfold applyInput; split <;> (try cases i) <;> simp [inputReset, inputIrq, inputNmi, inputStart, inputPause, requestIrq, requestNmi, writeFlag_eq]

/-- Of `P` an input other than `reset()` writes B alone. -/
theorem applyInput_const (i : HostInput) (h : getFlag s.p .K = true) :
    getFlag (applyInput s i).p .K = true := by
  unfold applyInput
  split
  · cases i <;> simp [inputReset, inputIrq, inputNmi, inputStart, inputPause, requestIrq, requestNmi,
      writeFlag_eq, h]
    rfl
  · exact h

/-- A faulted core accepts no input. -/
theorem applyInput_faulted (i : HostInput) (h : s.fault ≠ none) : applyInput s i = s := by
  simp [applyInput, h]

end

/-- A property that every input keeps is kept by every batch. -/
theorem foldl_applyInput {P : State → Prop} (hP : ∀ s i, P s → P (applyInput s i)) :
    ∀ (is : List HostInput) (s : State), P s → P (is.foldl applyInput s)
  | [], _, h => h
  | i :: is, s, h => foldl_applyInput hP is (applyInput s i) (hP s i h)

section
variable (s : State)

theorem takeInputs_nil (h : s.schedule = []) : takeInputs s = s := by
  cases s; simp_all [takeInputs, State.setSchedule]

@[simp] theorem takeInputs_pc : (takeInputs s).pc = s.pc :=
  foldl_applyInput (P := fun t => t.pc = s.pc) (fun t i h => by rw [applyInput_pc, h]) _ _ rfl
@[simp] theorem takeInputs_executed : (takeInputs s).executed = s.executed :=
  foldl_applyInput (P := fun t => t.executed = s.executed) (fun t i h => by rw [applyInput_executed, h]) _ _ rfl
@[simp] theorem takeInputs_fault : (takeInputs s).fault = s.fault :=
  foldl_applyInput (P := fun t => t.fault = s.fault) (fun t i h => by rw [applyInput_fault, h]) _ _ rfl
@[simp] theorem takeInputs_mem : (takeInputs s).mem = s.mem :=
  foldl_applyInput (P := fun t => t.mem = s.mem) (fun t i h => by rw [applyInput_mem, h]) _ _ rfl
@[simp] theorem takeInputs_portLog : (takeInputs s).portLog = s.portLog :=
  foldl_applyInput (P := fun t => t.portLog = s.portLog) (fun t i h => by rw [applyInput_portLog, h]) _ _ rfl
@[simp] theorem takeInputs_hostReads : (takeInputs s).hostReads = s.hostReads :=
  foldl_applyInput (P := fun t => t.hostReads = s.hostReads) (fun t i h => by rw [applyInput_hostReads, h]) _ _ rfl
@[simp] theorem takeInputs_config : (takeInputs s).config = s.config :=
  foldl_applyInput (P := fun t => t.config = s.config) (fun t i h => by rw [applyInput_config, h]) _ _ rfl

/-- A step uses up one batch of the schedule. -/
@[simp] theorem takeInputs_schedule : (takeInputs s).schedule = s.schedule.tail :=
  foldl_applyInput (P := fun t => t.schedule = s.schedule.tail)
    (fun t i h => by rw [applyInput_schedule, h]) _ _ rfl

theorem takeInputs_const (h : getFlag s.p .K = true) : getFlag (takeInputs s).p .K = true :=
  foldl_applyInput (P := fun t => getFlag t.p .K = true) (fun t i h => applyInput_const t i h) _ _ h

/-! ### The fetch -/

@[simp] theorem fetchByte_a  : (fetchByte s).2.a = s.a := by simp [fetchByte]
@[simp] theorem fetchByte_x  : (fetchByte s).2.x = s.x := by simp [fetchByte]
@[simp] theorem fetchByte_y  : (fetchByte s).2.y = s.y := by simp [fetchByte]
@[simp] theorem fetchByte_sp  : (fetchByte s).2.sp = s.sp := by simp [fetchByte]
@[simp] theorem fetchByte_p  : (fetchByte s).2.p = s.p := by simp [fetchByte]
@[simp] theorem fetchByte_clockMode  : (fetchByte s).2.clockMode = s.clockMode := by simp [fetchByte]
@[simp] theorem fetchByte_pending  : (fetchByte s).2.pending = s.pending := by simp [fetchByte]
@[simp] theorem fetchByte_executed  : (fetchByte s).2.executed = s.executed := by simp [fetchByte]
@[simp] theorem fetchByte_fault  : (fetchByte s).2.fault = s.fault := by simp [fetchByte]
@[simp] theorem fetchByte_mem  : (fetchByte s).2.mem = s.mem := by simp [fetchByte]
@[simp] theorem fetchByte_schedule  : (fetchByte s).2.schedule = s.schedule := by simp [fetchByte]
@[simp] theorem fetchByte_config  : (fetchByte s).2.config = s.config := by simp [fetchByte]
@[simp] theorem fetchByte_pc : (fetchByte s).2.pc = s.pc + 1 := by simp [fetchByte]

@[simp] theorem fetchWord_a  : (fetchWord s).2.a = s.a := by simp [fetchWord]
@[simp] theorem fetchWord_x  : (fetchWord s).2.x = s.x := by simp [fetchWord]
@[simp] theorem fetchWord_y  : (fetchWord s).2.y = s.y := by simp [fetchWord]
@[simp] theorem fetchWord_sp  : (fetchWord s).2.sp = s.sp := by simp [fetchWord]
@[simp] theorem fetchWord_p  : (fetchWord s).2.p = s.p := by simp [fetchWord]
@[simp] theorem fetchWord_clockMode  : (fetchWord s).2.clockMode = s.clockMode := by simp [fetchWord]
@[simp] theorem fetchWord_pending  : (fetchWord s).2.pending = s.pending := by simp [fetchWord]
@[simp] theorem fetchWord_executed  : (fetchWord s).2.executed = s.executed := by simp [fetchWord]
@[simp] theorem fetchWord_fault  : (fetchWord s).2.fault = s.fault := by simp [fetchWord]
@[simp] theorem fetchWord_mem  : (fetchWord s).2.mem = s.mem := by simp [fetchWord]
@[simp] theorem fetchWord_schedule  : (fetchWord s).2.schedule = s.schedule := by simp [fetchWord]
@[simp] theorem fetchWord_config  : (fetchWord s).2.config = s.config := by simp [fetchWord]
@[simp] theorem fetchWord_pc : (fetchWord s).2.pc = s.pc + 2 := by simp [fetchWord]

@[simp] theorem fetchInstr_a  : (fetchInstr s).2.a = s.a := by simp only [fetchInstr]; split <;> simp
@[simp] theorem fetchInstr_x  : (fetchInstr s).2.x = s.x := by simp only [fetchInstr]; split <;> simp
@[simp] theorem fetchInstr_y  : (fetchInstr s).2.y = s.y := by simp only [fetchInstr]; split <;> simp
@[simp] theorem fetchInstr_sp  : (fetchInstr s).2.sp = s.sp := by simp only [fetchInstr]; split <;> simp
@[simp] theorem fetchInstr_p  : (fetchInstr s).2.p = s.p := by simp only [fetchInstr]; split <;> simp
@[simp] theorem fetchInstr_clockMode  : (fetchInstr s).2.clockMode = s.clockMode := by simp only [fetchInstr]; split <;> simp
@[simp] theorem fetchInstr_pending  : (fetchInstr s).2.pending = s.pending := by simp only [fetchInstr]; split <;> simp
@[simp] theorem fetchInstr_executed  : (fetchInstr s).2.executed = s.executed := by simp only [fetchInstr]; split <;> simp
@[simp] theorem fetchInstr_fault  : (fetchInstr s).2.fault = s.fault := by simp only [fetchInstr]; split <;> simp
@[simp] theorem fetchInstr_mem  : (fetchInstr s).2.mem = s.mem := by simp only [fetchInstr]; split <;> simp
@[simp] theorem fetchInstr_schedule  : (fetchInstr s).2.schedule = s.schedule := by simp only [fetchInstr]; split <;> simp
@[simp] theorem fetchInstr_config  : (fetchInstr s).2.config = s.config := by simp only [fetchInstr]; split <;> simp

/-- An unbound opcode: one port call, `PC` one past it, nothing else changed. -/
theorem fetchInstr_error {op : Byte} (h : (fetchInstr s).1 = .error op) :
    op = (memRead s.pc s).1 ∧ decodeOpcode s.config op = none ∧
      (fetchInstr s).2 = (memRead s.pc s).2.setPc (s.pc + 1) := by
  simp only [fetchInstr, fetchByte] at h ⊢
  split at h <;> simp_all

/-- An instruction of one byte: one port call, `PC` one past it. -/
theorem fetchInstr_noOperand {i : Instr}
    (h : decodeOpcode s.config (memRead s.pc s).1 = some (.noOperand i)) :
    fetchInstr s = (.ok i, (memRead s.pc s).2.setPc (s.pc + 1)) := by
  simp only [fetchInstr, fetchByte, h]

/-- An instruction of two bytes: two port calls, `PC` two past the first. -/
theorem fetchInstr_byteOperand {f : Byte → Instr}
    (h : decodeOpcode s.config (memRead s.pc s).1 = some (.byteOperand f)) :
    fetchInstr s =
      let v := memRead (s.pc + 1) (memRead s.pc s).2
      (.ok (f v.1), v.2.setPc (s.pc + 2)) := by
  simp only [fetchInstr, fetchByte, h, State.setPc_pc, memRead_setPc, State.setPc_setPc]
  rw [BitVec.add_assoc]
  rfl

/-- An instruction of three bytes: three port calls, the operand's low byte first, `PC` three past the
first. -/
theorem fetchInstr_wordOperand {f : Addr → Instr}
    (h : decodeOpcode s.config (memRead s.pc s).1 = some (.wordOperand f)) :
    fetchInstr s =
      let lo := memRead (s.pc + 1) (memRead s.pc s).2
      let hi := memRead (s.pc + 2) lo.2
      (.ok (f (wordOf hi.1 lo.1)), hi.2.setPc (s.pc + 3)) := by
  simp only [fetchInstr, fetchByte, fetchWord, memRead16, h, State.setPc_pc, memRead_setPc,
    State.setPc_setPc]
  rw [BitVec.add_assoc, BitVec.add_assoc]
  rfl

end

/-! ### The step -/

/-- Every way a step can answer a next state. -/
theorem step_cases {s t : State} (h : step s = .next t) :
    s.fault = none ∧
      (((takeInputs s).clockMode ≠ .running ∧ t = takeInputs s) ∨
        ((takeInputs s).clockMode = .running ∧
          ((∃ op, (fetchInstr s.atFetch).1 = .error op ∧
              t = raiseFault (.invalidOpcode op) (fetchInstr s.atFetch).2) ∨
            ∃ i u, (fetchInstr s.atFetch).1 = .ok i ∧
              exec i (fetchInstr s.atFetch).2 = .next u ∧ t = retire u))) := by
  unfold step at h
  split at h
  · cases h
  · refine ⟨‹_›, ?_⟩
    dsimp only at h
    split at h
    · refine .inr ⟨‹_›, ?_⟩
      simp only [coreStep] at h
      split at h
      · cases h
        exact .inl ⟨_, ‹_›, rfl⟩
      · split at h <;> cases h
        exact .inr ⟨_, _, ‹_›, ‹_›, rfl⟩
    · cases h
      exact .inl ⟨‹_›, rfl⟩

/-- A step of a core without a fault, whose clock does not run after the inputs: nothing but the inputs
happens. -/
theorem step_stopped {s : State} (hf : s.fault = none)
    (hc : (takeInputs s).clockMode ≠ .running) : step s = .next (takeInputs s) := by
  simp [step, hf, hc]

/-- A step of a running core without a fault is its core step. -/
theorem step_running {s : State} (hf : s.fault = none)
    (hc : (takeInputs s).clockMode = .running) : step s = coreStep (takeInputs s) := by
  simp [step, hf, hc]

/-- A running core that fetches an instruction executes and retires it. -/
theorem step_fetched {s : State} {i : Instr} {v : State} (hf : s.fault = none)
    (hc : (takeInputs s).clockMode = .running) (hi : fetchInstr s.atFetch = (.ok i, v)) :
    step s = .next (retire (i.form.effect v)) := by
  have hi' : fetchInstr (interruptCheck (takeInputs s)) = (.ok i, v) := hi
  simp only [step_running hf hc, coreStep, hi', exec_eq_effect]

/-- A faulted core takes no step. -/
theorem step_faulted {s : State} {r : Fault} (hf : s.fault = some r) : step s = .fault r := by
  simp [step, hf]

end Sys2Proof.Machine
end

