-- ==== Sys2Proof/Tests/Slice0.lean ====
section
/-!
SUPPORT. The model's own tests: the check of well-formedness, code written out from the spec's encodings,
one step for each mnemonic with the result the spec's vectors state, reset and interrupts, and for each
statement that has hypotheses a witness that meets them.
-/

namespace Sys2Proof.Tests

open Sys2Proof.Machine Sys2Proof.Spec

/-! ### Well-formedness -/

/-- A configuration without tier S (30_encoding.md R55). -/
def withoutTierS : Config := { Config.default with bindTierS := false }

/-- The twelve instructions of tier S are refused without tier S. -/
theorem test_wf_refuses_tierS :
    [Instr.bitZp 0x10, .bitAbs 0x3000, .lsrAcc, .lsrZp 0, .lsrZpX 0, .lsrAbs 0, .lsrAbsX 0, .inx, .iny, .dex,
      .dey, .wai].all (fun i => !i.wf withoutTierS) = true := by decide

/-- They are well formed with it, and any other instruction without it. -/
theorem test_wf_admits :
    (Instr.bitZp 0x10).wf Config.default = true ∧ (Instr.ldaImm 0xFF).wf withoutTierS = true := by decide

/-! ### Decoding: bytes written out from 30_encoding.md R52, R57 -/

/-- Loads: LDA `10101001`, `10100101`, `10111101`, low byte of the operand first. -/
theorem test_decode_loads :
    decode Config.default [0b10101001, 0x80] = .ok (.ldaImm 0x80, []) ∧
      decode Config.default [0b10100101, 0x10] = .ok (.ldaZp 0x10, []) ∧
      decode Config.default [0b10111101, 0x34, 0x12] = .ok (.ldaAbsX 0x1234, []) ∧
      decode Config.default [0b10110110, 0x10] = .ok (.ldxZpY 0x10, []) ∧
      decode Config.default [0b10111100, 0x00, 0x30] = .ok (.ldyAbsX 0x3000, []) := by decide

/-- Stores. -/
theorem test_decode_stores :
    decode Config.default [0b10010001, 0x40] = .ok (.staIndY 0x40, []) ∧
      decode Config.default [0b10000001, 0x40] = .ok (.staIndX 0x40, []) ∧
      decode Config.default [0b10001110, 0xCD, 0xAB] = .ok (.stxAbs 0xABCD, []) ∧
      decode Config.default [0b10010100, 0x10] = .ok (.styZpX 0x10, []) := by decide

/-- Logic, arithmetic and comparison. -/
theorem test_decode_logic_arithmetic :
    decode Config.default [0b00001001, 0x0F] = .ok (.oraImm 0x0F, []) ∧
      decode Config.default [0b00111001, 0x00, 0x30] = .ok (.andAbsY 0x3000, []) ∧
      decode Config.default [0b01010001, 0x20] = .ok (.eorIndY 0x20, []) ∧
      decode Config.default [0b01101001, 0x50] = .ok (.adcImm 0x50, []) ∧
      decode Config.default [0b11110101, 0x50] = .ok (.sbcZpX 0x50, []) ∧
      decode Config.default [0b11000001, 0x20] = .ok (.cmpIndX 0x20, []) ∧
      decode Config.default [0b11100000, 0x06] = .ok (.cpxImm 0x06, []) ∧
      decode Config.default [0b11001100, 0x00, 0x30] = .ok (.cpyAbs 0x3000, []) ∧
      decode Config.default [0b00100100, 0x10] = .ok (.bitZp 0x10, []) := by decide

/-- Shifts, rotations, increments and decrements. -/
theorem test_decode_shifts :
    decode Config.default [0b00001010] = .ok (.aslAcc, []) ∧
      decode Config.default [0b01001110, 0x00, 0x30] = .ok (.lsrAbs 0x3000, []) ∧
      decode Config.default [0b00110110, 0x10] = .ok (.rolZpX 0x10, []) ∧
      decode Config.default [0b01111110, 0xFF, 0x2F] = .ok (.rorAbsX 0x2FFF, []) ∧
      decode Config.default [0b11100110, 0x10] = .ok (.incZp 0x10, []) ∧
      decode Config.default [0b11011110, 0x00, 0x30] = .ok (.decAbsX 0x3000, []) ∧
      decode Config.default [0b11001010] = .ok (.dex, []) := by decide

/-- Branches, jumps and subroutines. -/
theorem test_decode_branches :
    decode Config.default [0b11010000, 0xFE] = .ok (.bne 0xFE, []) ∧
      decode Config.default [0b00010000, 0x10] = .ok (.bpl 0x10, []) ∧
      decode Config.default [0b01001100, 0x34, 0x12] = .ok (.jmpAbs 0x1234, []) ∧
      decode Config.default [0b01101100, 0xFF, 0x12] = .ok (.jmpInd 0x12FF, []) ∧
      decode Config.default [0b00100000, 0x00, 0x30] = .ok (.jsr 0x3000, []) ∧
      decode Config.default [0b01100000] = .ok (.rts, []) := by decide

/-- Transfers, flags, stack and system. -/
theorem test_decode_implied :
    decode Config.default [0b10111010] = .ok (.tsx, []) ∧ decode Config.default [0b10011010] = .ok (.txs, []) ∧
      decode Config.default [0b11011000] = .ok (.cld, []) ∧ decode Config.default [0b00001000] = .ok (.php, []) ∧
      decode Config.default [0b11101010] = .ok (.nop, []) ∧ decode Config.default [0b00000000] = .ok (.brk, []) ∧
      decode Config.default [0b01000000] = .ok (.rti, []) ∧ decode Config.default [0b11001011] = .ok (.wai, []) := by
  decide

/-- What is no instruction: an unbound byte, a tier-S byte without tier S, a missing operand (R50, R55,
R58). -/
theorem test_decode_rejects :
    decode Config.default [0x02, 0x00] = .error (.unbound 0x02) ∧
      decode withoutTierS [0x24, 0x10] = .error (.unbound 0x24) ∧
      decode Config.default [0xAD, 0x34] = .error (.missingOperand 0xAD) := by decide

/-! ### One step for each mnemonic -/

/-- The base state of the vectors: a running core at 0x0200 with nothing pending and this code there. -/
def at200 (code : List Byte) : State :=
  ((State.reset.setPending .none).setPc 0x0200).pokes 0x0200 code

/-- The state under another configuration. -/
def withConfig (s : State) (cfg : Config) : State := { s with config := cfg }

/-- One step answers a next state with these port calls, oldest first, these registers, this latch and this
clock mode, one instruction counted and no fault. -/
def stepGives (s : State) (latch : PendingInterrupt) (clock : ClockMode) (calls : List PortCall)
    (a x y sp p : Byte) (pc : Addr) : Bool :=
  match step s with
  | .next t =>
    t.portLog.reverse == calls && t.a == a && t.x == x && t.y == y && t.sp == sp && t.p == p && t.pc == pc &&
      t.pending == latch && t.clockMode == clock && t.executed == 1 && t.fault == none
  | _ => false

/-- 95_test_vectors.md V3: `LDA $F0,X` (R90, R74). -/
theorem test_lda_V3 :
    stepGives (((((at200 [0xB5, 0xF0]).pokes 0x0010 [0x7F]).pokes 0x0110 [0x99]).setX 0x20).setP 0xA0)
    .none .running
      [.read 0x0200 0xB5, .read 0x0201 0xF0, .read 0x0010 0x7F]
      0x7F 0x20 0x00 0x00 0x20 0x0202 = true := by decide

/-- 95_test_vectors.md V6: `LDA ($FF,X)` (R90, R79). -/
theorem test_lda_V6 :
    stepGives ((((((at200 [0xA1, 0xFF]).pokes 0x0000 [0x56]).pokes 0x00FF [0x34, 0x12]).pokes 0x1234
    [0x11]).pokes 0x5634 [0x22]).setP 0x20) .none .running
      [.read 0x0200 0xA1, .read 0x0201 0xFF, .read 0x00FF 0x34, .read 0x0100 0x12, .read 0x1234 0x11]
      0x11 0x00 0x00 0x00 0x20 0x0202 = true := by decide

/-- 95_test_vectors.md V12: `LDX $10,Y` (R91, R75). -/
theorem test_ldx_V12 :
    stepGives ((((at200 [0xB6, 0x10]).pokes 0x0015 [0x80]).setY 0x05).setP 0x20) .none .running
      [.read 0x0200 0xB6, .read 0x0201 0x10, .read 0x0015 0x80]
      0x00 0x80 0x05 0x00 0xA0 0x0202 = true := by decide

/-- 95_test_vectors.md V14: `LDY $3000,X` (R92, R77). -/
theorem test_ldy_V14 :
    stepGives ((((at200 [0xBC, 0x00, 0x30]).pokes 0x3002 [0x01]).setX 0x02).setP 0xA2) .none .running
      [.read 0x0200 0xBC, .read 0x0201 0x00, .read 0x0202 0x30, .read 0x3002 0x01]
      0x00 0x02 0x01 0x00 0x20 0x0203 = true := by decide

/-- 95_test_vectors.md V17: `STA $10` (R93, R84). -/
theorem test_sta_V17 :
    stepGives (withConfig ((((at200 [0x85, 0x10]).pokes 0x0010 [0x99]).setA 0x80).setP 0x20) {
    Config.default with storePreread := true }) .none .running
      [.read 0x0200 0x85, .read 0x0201 0x10, .read 0x0010 0x99, .write 0x0010 0x80]
      0x80 0x00 0x00 0x00 0x20 0x0202 = true := by decide

/-- 95_test_vectors.md V18: `STX $FF,Y` (R94, R75). -/
theorem test_stx_V18 :
    stepGives ((((at200 [0x96, 0xFF]).setX 0x33).setY 0x02).setP 0x20) .none .running
      [.read 0x0200 0x96, .read 0x0201 0xFF, .write 0x0001 0x33]
      0x00 0x33 0x02 0x00 0x20 0x0202 = true := by decide

/-- 95_test_vectors.md V19: `STY $10,X` (R95, R74). -/
theorem test_sty_V19 :
    stepGives ((((at200 [0x94, 0x10]).setX 0x01).setY 0x80).setP 0x20) .none .running
      [.read 0x0200 0x94, .read 0x0201 0x10, .write 0x0011 0x80]
      0x00 0x01 0x80 0x00 0x20 0x0202 = true := by decide

/-- 95_test_vectors.md V20: `ORA #$0F` (R100). -/
theorem test_ora_V20 :
    stepGives (((at200 [0x09, 0x0F]).setA 0xF0).setP 0x20) .none .running
      [.read 0x0200 0x09, .read 0x0201 0x0F]
      0xFF 0x00 0x00 0x00 0xA0 0x0202 = true := by decide

/-- 95_test_vectors.md V23: `AND $10` (R101). -/
theorem test_and_V23 :
    stepGives ((((at200 [0x25, 0x10]).pokes 0x0010 [0x81]).setA 0xC3).setP 0x20) .none .running
      [.read 0x0200 0x25, .read 0x0201 0x10, .read 0x0010 0x81]
      0x81 0x00 0x00 0x00 0xA0 0x0202 = true := by decide

/-- 95_test_vectors.md V24: `EOR #$FF` (R102). -/
theorem test_eor_V24 :
    stepGives (((at200 [0x49, 0xFF]).setA 0xFF).setP 0xE0) .none .running
      [.read 0x0200 0x49, .read 0x0201 0xFF]
      0x00 0x00 0x00 0x00 0x62 0x0202 = true := by decide

/-- 95_test_vectors.md V32: `ADC #$90` (R103). -/
theorem test_adc_V32 :
    stepGives (((at200 [0x69, 0x90]).setA 0xD0).setP 0x20) .none .running
      [.read 0x0200 0x69, .read 0x0201 0x90]
      0x60 0x00 0x00 0x00 0x61 0x0202 = true := by decide

/-- 95_test_vectors.md V36: `ADC $3000,X` (R103). -/
theorem test_adc_V36 :
    stepGives (((((at200 [0x7D, 0x00, 0x30]).pokes 0x3001 [0x01]).setA 0x7F).setX 0x01).setP 0xE3) .none
    .running
      [.read 0x0200 0x7D, .read 0x0201 0x00, .read 0x0202 0x30, .read 0x3001 0x01]
      0x81 0x01 0x00 0x00 0xE0 0x0203 = true := by decide

/-- 95_test_vectors.md V43: `SBC #$01` (R104). -/
theorem test_sbc_V43 :
    stepGives (((at200 [0xE9, 0x01]).setA 0x80).setP 0x21) .none .running
      [.read 0x0200 0xE9, .read 0x0201 0x01]
      0x7F 0x00 0x00 0x00 0x61 0x0202 = true := by decide

/-- 95_test_vectors.md V45: `SBC #$00` (R104). -/
theorem test_sbc_V45 :
    stepGives ((at200 [0xE9, 0x00]).setP 0x20) .none .running
      [.read 0x0200 0xE9, .read 0x0201 0x00]
      0xFF 0x00 0x00 0x00 0xA0 0x0202 = true := by decide

/-- 95_test_vectors.md V49: `CMP #$10` (R105). -/
theorem test_cmp_V49 :
    stepGives (((at200 [0xC9, 0x10]).setA 0x20).setP 0x60) .none .running
      [.read 0x0200 0xC9, .read 0x0201 0x10]
      0x20 0x00 0x00 0x00 0x61 0x0202 = true := by decide

/-- 95_test_vectors.md V57: `CPX #$06` (R106). -/
theorem test_cpx_V57 :
    stepGives (((at200 [0xE0, 0x06]).setX 0x05).setP 0x23) .none .running
      [.read 0x0200 0xE0, .read 0x0201 0x06]
      0x00 0x05 0x00 0x00 0xA0 0x0202 = true := by decide

/-- 95_test_vectors.md V58: `CPY $3000` (R107). -/
theorem test_cpy_V58 :
    stepGives ((((at200 [0xCC, 0x00, 0x30]).pokes 0x3000 [0x01]).setY 0xFF).setP 0x20) .none .running
      [.read 0x0200 0xCC, .read 0x0201 0x00, .read 0x0202 0x30, .read 0x3000 0x01]
      0x00 0x00 0xFF 0x00 0xA1 0x0203 = true := by decide

/-- 95_test_vectors.md V59: `BIT $10` (R108). -/
theorem test_bit_V59 :
    stepGives ((((at200 [0x24, 0x10]).pokes 0x0010 [0xC0]).setA 0x3F).setP 0x20) .none .running
      [.read 0x0200 0x24, .read 0x0201 0x10, .read 0x0010 0xC0]
      0x3F 0x00 0x00 0x00 0xE2 0x0202 = true := by decide

/-- 95_test_vectors.md V66: `ASL $10` (R110). -/
theorem test_asl_V66 :
    stepGives (((at200 [0x06, 0x10]).pokes 0x0010 [0xC0]).setP 0x20) .none .running
      [.read 0x0200 0x06, .read 0x0201 0x10, .read 0x0010 0xC0, .write 0x0010 0x80]
      0x00 0x00 0x00 0x00 0xA1 0x0202 = true := by decide

/-- 95_test_vectors.md V69: `LSR $3000` (R111). -/
theorem test_lsr_V69 :
    stepGives (((at200 [0x4E, 0x00, 0x30]).pokes 0x3000 [0xFF]).setP 0x20) .none .running
      [.read 0x0200 0x4E, .read 0x0201 0x00, .read 0x0202 0x30, .read 0x3000 0xFF, .write 0x3000 0x7F]
      0x00 0x00 0x00 0x00 0x21 0x0203 = true := by decide

/-- 95_test_vectors.md V73: `ROL $10,X` (R112). -/
theorem test_rol_V73 :
    stepGives ((((at200 [0x36, 0x10]).pokes 0x0012 [0x55]).setX 0x02).setP 0x21) .none .running
      [.read 0x0200 0x36, .read 0x0201 0x10, .read 0x0012 0x55, .write 0x0012 0xAB]
      0x00 0x02 0x00 0x00 0xA0 0x0202 = true := by decide

/-- 95_test_vectors.md V77: `ROR $2FFF,X` (R113). -/
theorem test_ror_V77 :
    stepGives ((((at200 [0x7E, 0xFF, 0x2F]).pokes 0x3000 [0x02]).setX 0x01).setP 0x21) .none .running
      [.read 0x0200 0x7E, .read 0x0201 0xFF, .read 0x0202 0x2F, .read 0x3000 0x02, .write 0x3000 0x81]
      0x00 0x01 0x00 0x00 0xA0 0x0203 = true := by decide

/-- 95_test_vectors.md V78: `INC $10` (R114). -/
theorem test_inc_V78 :
    stepGives (((at200 [0xE6, 0x10]).pokes 0x0010 [0xFF]).setP 0x21) .none .running
      [.read 0x0200 0xE6, .read 0x0201 0x10, .read 0x0010 0xFF, .write 0x0010 0x00]
      0x00 0x00 0x00 0x00 0x23 0x0202 = true := by decide

/-- 95_test_vectors.md V81: `DEC $10` (R115). -/
theorem test_dec_V81 :
    stepGives (((at200 [0xC6, 0x10]).pokes 0x0010 [0x00]).setP 0x20) .none .running
      [.read 0x0200 0xC6, .read 0x0201 0x10, .read 0x0010 0x00, .write 0x0010 0xFF]
      0x00 0x00 0x00 0x00 0xA0 0x0202 = true := by decide

/-- 95_test_vectors.md V84: `INX` (R116). -/
theorem test_inx_V84 :
    stepGives (((at200 [0xE8]).setX 0xFF).setP 0x21) .none .running
      [.read 0x0200 0xE8]
      0x00 0x00 0x00 0x00 0x23 0x0201 = true := by decide

/-- 95_test_vectors.md V86: `INY` (R117). -/
theorem test_iny_V86 :
    stepGives ((at200 [0xC8]).setP 0x22) .none .running
      [.read 0x0200 0xC8]
      0x00 0x00 0x01 0x00 0x20 0x0201 = true := by decide

/-- 95_test_vectors.md V87: `DEX` (R118). -/
theorem test_dex_V87 :
    stepGives ((at200 [0xCA]).setP 0x20) .none .running
      [.read 0x0200 0xCA]
      0x00 0xFF 0x00 0x00 0xA0 0x0201 = true := by decide

/-- 95_test_vectors.md V89: `DEY` (R119). -/
theorem test_dey_V89 :
    stepGives (((at200 [0x88]).setY 0x80).setP 0xA0) .none .running
      [.read 0x0200 0x88]
      0x00 0x00 0x7F 0x00 0x20 0x0201 = true := by decide

/-- 95_test_vectors.md V90: `BNE *` (R127). -/
theorem test_bne_V90 :
    stepGives ((at200 [0xD0, 0xFE]).setP 0x20) .none .running
      [.read 0x0200 0xD0, .read 0x0201 0xFE]
      0x00 0x00 0x00 0x00 0x20 0x0200 = true := by decide

/-- 95_test_vectors.md V102: `BNE *-126` (R120). -/
theorem test_bne_V102 :
    stepGives ((((at200 []).setPc 0x0000).pokes 0x0000 [0xD0, 0x80]).setP 0x20) .none .running
      [.read 0x0000 0xD0, .read 0x0001 0x80]
      0x00 0x00 0x00 0x00 0x20 0xFF82 = true := by decide

/-- 95_test_vectors.md V93: `BEQ *+129` (R128). -/
theorem test_beq_V93 :
    stepGives ((at200 [0xF0, 0x7F]).setP 0x22) .none .running
      [.read 0x0200 0xF0, .read 0x0201 0x7F]
      0x00 0x00 0x00 0x00 0x22 0x0281 = true := by decide

/-- 95_test_vectors.md V94: `BMI *-126` (R122). -/
theorem test_bmi_V94 :
    stepGives ((at200 [0x30, 0x80]).setP 0xA0) .none .running
      [.read 0x0200 0x30, .read 0x0201 0x80]
      0x00 0x00 0x00 0x00 0xA0 0x0182 = true := by decide

/-- 95_test_vectors.md V96: `BPL *+18` (R121). -/
theorem test_bpl_V96 :
    stepGives ((at200 [0x10, 0x10]).setP 0xA0) .none .running
      [.read 0x0200 0x10, .read 0x0201 0x10]
      0x00 0x00 0x00 0x00 0xA0 0x0202 = true := by decide

/-- 95_test_vectors.md V97: `BVC *+18` (R123). -/
theorem test_bvc_V97 :
    stepGives ((at200 [0x50, 0x10]).setP 0x60) .none .running
      [.read 0x0200 0x50, .read 0x0201 0x10]
      0x00 0x00 0x00 0x00 0x60 0x0202 = true := by decide

/-- 95_test_vectors.md V98: `BVS *+18` (R124). -/
theorem test_bvs_V98 :
    stepGives ((at200 [0x70, 0x10]).setP 0x60) .none .running
      [.read 0x0200 0x70, .read 0x0201 0x10]
      0x00 0x00 0x00 0x00 0x60 0x0212 = true := by decide

/-- 95_test_vectors.md V99: `BCC *+7` (R125). -/
theorem test_bcc_V99 :
    stepGives ((at200 [0x90, 0x05]).setP 0x21) .none .running
      [.read 0x0200 0x90, .read 0x0201 0x05]
      0x00 0x00 0x00 0x00 0x21 0x0202 = true := by decide

/-- 95_test_vectors.md V100: `BCS *+7` (R126). -/
theorem test_bcs_V100 :
    stepGives ((at200 [0xB0, 0x05]).setP 0x21) .none .running
      [.read 0x0200 0xB0, .read 0x0201 0x05]
      0x00 0x00 0x00 0x00 0x21 0x0207 = true := by decide

/-- 95_test_vectors.md V103: `JMP $1234` (R129). -/
theorem test_jmp_V103 :
    stepGives ((at200 [0x4C, 0x34, 0x12]).setP 0x20) .none .running
      [.read 0x0200 0x4C, .read 0x0201 0x34, .read 0x0202 0x12]
      0x00 0x00 0x00 0x00 0x20 0x1234 = true := by decide

/-- 95_test_vectors.md V104: `JMP ($12FF)` (R130). -/
theorem test_jmp_V104 :
    stepGives ((((at200 [0x6C, 0xFF, 0x12]).pokes 0x1200 [0x99]).pokes 0x12FF [0x78, 0x56]).setP 0x20)
    .none .running
      [.read 0x0200 0x6C, .read 0x0201 0xFF, .read 0x0202 0x12, .read 0x12FF 0x78, .read 0x1300 0x56]
      0x00 0x00 0x00 0x00 0x20 0x5678 = true := by decide

/-- 95_test_vectors.md V106: `JSR $3000` (R131). -/
theorem test_jsr_V106 :
    stepGives ((at200 [0x20, 0x00, 0x30]).setP 0x20) .none .running
      [.read 0x0200 0x20, .read 0x0201 0x00, .read 0x0202 0x30, .write 0x0100 0x02, .write 0x01FF 0x02]
      0x00 0x00 0x00 0xFE 0x20 0x3000 = true := by decide

/-- 95_test_vectors.md V109: `RTS` (R132). -/
theorem test_rts_V109 :
    stepGives ((((at200 [0x60]).pokes 0x0100 [0xFF, 0xFF]).setSp 0xFF).setP 0x20) .none .running
      [.read 0x0200 0x60, .read 0x0100 0xFF, .read 0x0101 0xFF]
      0x00 0x00 0x00 0x01 0x20 0x0000 = true := by decide

/-- 95_test_vectors.md V110: `TAX` (R135). -/
theorem test_tax_V110 :
    stepGives ((((at200 [0xAA]).setA 0x80).setX 0x01).setP 0x22) .none .running
      [.read 0x0200 0xAA]
      0x80 0x80 0x00 0x00 0xA0 0x0201 = true := by decide

/-- 95_test_vectors.md V111: `TXA` (R136). -/
theorem test_txa_V111 :
    stepGives (((at200 [0x8A]).setA 0x55).setP 0xA0) .none .running
      [.read 0x0200 0x8A]
      0x00 0x00 0x00 0x00 0x22 0x0201 = true := by decide

/-- 95_test_vectors.md V112: `TAY` (R137). -/
theorem test_tay_V112 :
    stepGives (((at200 [0xA8]).setA 0x7F).setP 0xA2) .none .running
      [.read 0x0200 0xA8]
      0x7F 0x00 0x7F 0x00 0x20 0x0201 = true := by decide

/-- 95_test_vectors.md V113: `TYA` (R138). -/
theorem test_tya_V113 :
    stepGives (((at200 [0x98]).setY 0xFF).setP 0x20) .none .running
      [.read 0x0200 0x98]
      0xFF 0x00 0xFF 0x00 0xA0 0x0201 = true := by decide

/-- 95_test_vectors.md V114: `TSX` (R139). -/
theorem test_tsx_V114 :
    stepGives (((at200 [0xBA]).setX 0x11).setP 0x20) .none .running
      [.read 0x0200 0xBA]
      0x00 0x00 0x00 0x00 0x22 0x0201 = true := by decide

/-- 95_test_vectors.md V116: `TXS` (R140). -/
theorem test_txs_V116 :
    stepGives (((at200 [0x9A]).setSp 0x55).setP 0xA0) .none .running
      [.read 0x0200 0x9A]
      0x00 0x00 0x00 0x00 0xA0 0x0201 = true := by decide

/-- 95_test_vectors.md V118: `CLC` (R141). -/
theorem test_clc_V118 :
    stepGives ((at200 [0x18]).setP 0xFF) .none .running
      [.read 0x0200 0x18]
      0x00 0x00 0x00 0x00 0xFE 0x0201 = true := by decide

/-- 95_test_vectors.md V119: `SEC` (R142). -/
theorem test_sec_V119 :
    stepGives ((at200 [0x38]).setP 0x20) .none .running
      [.read 0x0200 0x38]
      0x00 0x00 0x00 0x00 0x21 0x0201 = true := by decide

/-- 95_test_vectors.md V120: `CLI` (R143). -/
theorem test_cli_V120 :
    stepGives ((at200 [0x58]).setP 0x24) .none .running
      [.read 0x0200 0x58]
      0x00 0x00 0x00 0x00 0x20 0x0201 = true := by decide

/-- 95_test_vectors.md V121: `SEI` (R144). -/
theorem test_sei_V121 :
    stepGives ((at200 [0x78]).setP 0x20) .none .running
      [.read 0x0200 0x78]
      0x00 0x00 0x00 0x00 0x24 0x0201 = true := by decide

/-- 95_test_vectors.md V122: `CLV` (R145). -/
theorem test_clv_V122 :
    stepGives ((at200 [0xB8]).setP 0xE0) .none .running
      [.read 0x0200 0xB8]
      0x00 0x00 0x00 0x00 0xA0 0x0201 = true := by decide

/-- 95_test_vectors.md V123: `CLD` (R146). -/
theorem test_cld_V123 :
    stepGives ((at200 [0xD8]).setP 0x28) .none .running
      [.read 0x0200 0xD8]
      0x00 0x00 0x00 0x00 0x20 0x0201 = true := by decide

/-- 95_test_vectors.md V124: `SED` (R147). -/
theorem test_sed_V124 :
    stepGives ((at200 [0xF8]).setP 0x20) .none .running
      [.read 0x0200 0xF8]
      0x00 0x00 0x00 0x00 0x28 0x0201 = true := by decide

/-- 95_test_vectors.md V126: `PHA` (R148). -/
theorem test_pha_V126 :
    stepGives (((at200 [0x48]).setA 0xAB).setP 0x20) .none .running
      [.read 0x0200 0x48, .write 0x0100 0xAB]
      0xAB 0x00 0x00 0xFF 0x20 0x0201 = true := by decide

/-- 95_test_vectors.md V127: `PLA` (R149). -/
theorem test_pla_V127 :
    stepGives (((((at200 [0x68]).pokes 0x0100 [0x80]).setA 0x01).setSp 0xFF).setP 0x22) .none .running
      [.read 0x0200 0x68, .read 0x0100 0x80]
      0x80 0x00 0x00 0x00 0xA0 0x0201 = true := by decide

/-- 95_test_vectors.md V129: `PHP` (R150). -/
theorem test_php_V129 :
    stepGives (((at200 [0x08]).setSp 0xFF).setP 0xB1) .none .running
      [.read 0x0200 0x08, .write 0x01FF 0xB1]
      0x00 0x00 0x00 0xFE 0xB1 0x0201 = true := by decide

/-- 95_test_vectors.md V132: `PLP` (R151). -/
theorem test_plp_V132 :
    stepGives ((((at200 [0x28]).pokes 0x01FF [0x00]).setSp 0xFE).setP 0xFF) .none .running
      [.read 0x0200 0x28, .read 0x01FF 0x00]
      0x00 0x00 0x00 0xFF 0x20 0x0201 = true := by decide

/-- 95_test_vectors.md V134: `NOP` (R152). -/
theorem test_nop_V134 :
    stepGives ((((((at200 [0xEA]).setA 0x01).setX 0x02).setY 0x03).setSp 0x04).setP 0x65) .none .running
      [.read 0x0200 0xEA]
      0x01 0x02 0x03 0x04 0x65 0x0201 = true := by decide

/-- 95_test_vectors.md V135: `BRK` (R155). -/
theorem test_brk_V135 :
    stepGives (((at200 [0x00]).setSp 0xFF).setP 0x20) .irq .running
      [.read 0x0200 0x00]
      0x00 0x00 0x00 0xFF 0x30 0x0201 = true := by decide

/-- 95_test_vectors.md V138: `RTI` (R156). -/
theorem test_rti_V138 :
    stepGives (((((at200 [0x40]).pokes 0x0100 [0x34, 0x12]).pokes 0x01FF [0xCF]).setSp 0xFE).setP 0x20)
    .none .running
      [.read 0x0200 0x40, .read 0x01FF 0xCF, .read 0x0100 0x34, .read 0x0101 0x12]
      0x00 0x00 0x00 0x01 0xEF 0x1234 = true := by decide

/-- 95_test_vectors.md V139: `WAI` (R157). -/
theorem test_wai_V139 :
    stepGives (((at200 [0xCB]).setSp 0xFF).setP 0x20) .none .waitForInterrupt
      [.read 0x0200 0xCB]
      0x00 0x00 0x00 0xFF 0x20 0x0201 = true := by decide

/-- 95_test_vectors.md V62, V140: an unbound byte latches its fault after the opcode read alone; the next
step is refused by it. -/
theorem test_unbound_V62_V140 :
    (match step (withConfig (at200 [0x24, 0x10]) withoutTierS) with
      | .next t => t.fault == some (.invalidOpcode 0x24) && t.portLog == [.read 0x0200 0x24] && t.executed == 0
      | _ => false) = true ∧
    (match step (at200 [0x02]) with
      | .next t => t.fault == some (.invalidOpcode 0x02) && t.pc == 0x0201 &&
          (match step t with
            | .fault r => r == .invalidOpcode 0x02
            | _ => false)
      | _ => false) = true := by decide

/-! ### Reset, interrupts, clock -/

/-- 10_state.md R25, middle column: the values after `reset()`. -/
theorem test_reset_values :
    State.reset.a = 0 ∧ State.reset.x = 0 ∧ State.reset.y = 0 ∧ State.reset.sp = 0 ∧ State.reset.p = 0x20 ∧
      State.reset.pending = .reset ∧ State.reset.clockMode = .running ∧ State.reset.fault = none := by decide

/-- 95_test_vectors.md P6: the step after `reset()` on a paused core. -/
theorem test_reset_P6 :
    stepGives ((((((((((at200 []).pokes 0xFFFC [0x00, 0x80]).pokes 0x8000 [0xEA]).setA 0x77).setX 0x66).setY
        0x55).setSp 0x44).setP 0xE7).setPc 0x1234).setClockMode .paused |>.setSchedule [[.reset]])
      .none .running [.read 0xFFFC 0x00, .read 0xFFFD 0x80, .read 0x8000 0xEA]
      0x00 0x00 0x00 0x00 0x20 0x8001 = true := by decide

/-- The code the interrupt scenarios of 95_test_vectors.md share: the vector 0xFFFE to a NOP at 0x4000. -/
def scenario (code : List Byte) (sp p : Byte) : State :=
  ((((at200 code).pokes 0xFFFE [0x00, 0x40]).pokes 0x4000 [0xEA]).setSp sp).setP p

/-- 60_exceptions.md R171: an IRQ entry with I clear: `PC` high, `PC` low, `P`, then the vector. -/
theorem test_irq_entry :
    stepGives ((scenario [0xEA] 0xFF 0x20).setSchedule [[.triggerIRQB false]]) .none .running
      [.write 0x01FF 0x02, .write 0x01FE 0x00, .write 0x01FD 0x20, .read 0xFFFE 0x00, .read 0xFFFF 0x40,
        .read 0x4000 0xEA] 0x00 0x00 0x00 0xFC 0x20 0x4001 = true := by decide

/-- 60_exceptions.md R168, R174: an IRQ with I set stays on the latch; B is written all the same (R165). -/
theorem test_irq_masked :
    stepGives ((scenario [0xEA] 0xFF 0x24).setSchedule [[.triggerIRQB true]]) .irq .running
      [.read 0x0200 0xEA] 0x00 0x00 0x00 0xFF 0x34 0x0201 = true := by decide

/-- 60_exceptions.md R172: NMI with I set, its own vector and `ENTRY_SETS_I`, waking a sleeping core. -/
theorem test_nmi_entry :
    stepGives (withConfig (((((scenario [0xEA] 0xFF 0x20).pokes 0xFFFA [0x00, 0x50]).pokes 0x5000 [0xEA]).setClockMode
        .waitForInterrupt).setSchedule [[.triggerNMIB]])
        ⟨true, true, 0xFFFA, true, false, none, []⟩) .none .running
      [.write 0x01FF 0x02, .write 0x01FE 0x00, .write 0x01FD 0x20, .read 0xFFFA 0x00, .read 0xFFFB 0x50,
        .read 0x5000 0xEA] 0x00 0x00 0x00 0xFC 0x24 0x5001 = true := by decide

/-- 60_exceptions.md R182: the cap pauses the core after the instruction that reaches it. -/
theorem test_cap :
    stepGives (withConfig (scenario [0xEA] 0xFF 0x20) ⟨true, false, 0xFFFE, true, false, some 1, []⟩) .none .paused
      [.read 0x0200 0xEA] 0x00 0x00 0x00 0xFF 0x20 0x0201 = true := by decide

/-- A table word of three bytes, placed by `withFetchWord`, is the first instruction to run after reset. -/
theorem test_withFetchWord :
    decodeTableWord 24 0x1234AD = some (.ldaAbs 0x1234) ∧
      (match step (State.reset.withFetchWord 24 0x1234AD) with
        | .next t => t.executed == 1 && t.portLog.head? == some (.read 0x1234 0x00)
        | _ => false) = true := by decide

/-! ### Witnesses: each statement's hypotheses are met -/

/-- A configuration whose device window is the page 0xD0. -/
def withDevice : Config := { Config.default with devices := [⟨0xD000, 0xD0FF⟩] }

theorem stackIsRam_reset : StackIsRam State.reset := fun _ => rfl

theorem witness_DecodeOfEncodeIsTheInstruction :
    (Instr.ldaAbs 0xFFFF).wf withoutTierS = true ∧ (Instr.inx).wf Config.default = true := by decide

theorem witness_EncodeOfDecodeIsTheBytes :
    decode Config.default [0x20, 0x34, 0x12, 0xEA] = .ok (.jsr 0x1234, [0xEA]) := by decide

theorem witness_FirstByteTellsTheLength : (Instr.brk).wf withoutTierS = true := by decide

theorem witness_NormSetsNZAndTheCarryAsked : 0 < 512 ∧ 511 < 512 := by decide

theorem witness_RamAnswersTheByteLastWritten :
    State.reset.mem.wf = true ∧ isDevice withDevice 0xD100 = false ∧ isDevice withDevice 0xCFFF = false ∧
      (0xCFFF : Addr) ≠ 0xD100 := by decide

theorem witness_PushedWordIsPulledBack : State.reset.mem.wf = true ∧ StackIsRam State.reset :=
  ⟨rfl, stackIsRam_reset⟩

theorem witness_LoadsCopyTheFetchedByte :
    (Instr.ldaIndX 0xFF).form = .read .lda (.mem (.indexedIndirect 0xFF)) ∧
      (Instr.ldxImm 0).form = .read .ldx (.immediate 0) ∧
      (Instr.ldyAbsX 0xFFFF).form = .read .ldy (.mem (.absoluteX 0xFFFF)) := by decide

theorem witness_LogicCombinesAWithTheOperand :
    (Instr.oraImm 0).form = .read .ora (.immediate 0) ∧
      (Instr.andZpX 0xFF).form = .read .and (.mem (.zeropageX 0xFF)) ∧
      (Instr.eorIndY 0xFF).form = .read .eor (.mem (.indirectIndexed 0xFF)) := by decide

theorem witness_AdcAddsWithCarry :
    (Instr.adcAbsY 0xFFFF).form = .read .adc (.mem (.absoluteY 0xFFFF)) := by decide

theorem witness_SbcSubtractsWithBorrow : (Instr.sbcImm 0).form = .read .sbc (.immediate 0) := by decide

theorem witness_ComparesSetNZCFromTheDifference :
    (Instr.cmpIndY 0xFF).form = .read .cmp (.mem (.indirectIndexed 0xFF)) ∧
      (Instr.cpxImm 0).form = .read .cpx (.immediate 0) ∧
      (Instr.cpyAbs 0).form = .read .cpy (.mem (.absolute 0)) := by decide

theorem witness_BitCopiesBitsSevenAndSix :
    (Instr.bitZp 0xFF).form = .read .bit (.mem (.zeropage 0xFF)) ∧
      (Instr.bitAbs 0xFFFF).form = .read .bit (.mem (.absolute 0xFFFF)) := by decide

theorem witness_StoresWriteTheRegisterOnce :
    State.reset.mem.wf = true ∧ (Instr.staAbs 0xFFFF).form = .store .sta (.absolute 0xFFFF) ∧
      (Instr.stxZpY 0xFF).form = .store .stx (.zeropageY 0xFF) ∧
      (Instr.styZpX 0).form = .store .sty (.zeropageX 0) := by decide

theorem witness_ReadModifyWriteStoresTheResult :
    State.reset.mem.wf = true ∧ (Instr.lsrAcc).form = .rmw .lsr .accumulator ∧
      (Instr.incAbsX 0xFFFF).form = .rmw .inc (.mem (.absoluteX 0xFFFF)) ∧
      (Instr.rorZpX 0xFF).form = .rmw .ror (.mem (.zeropageX 0xFF)) := by decide

theorem witness_BranchesMovePcOnTheirFlag :
    (Instr.bne 0x7F).form = .branch .bne 0x7F ∧ (Instr.bvs 0x80).form = .branch .bvs 0x80 := by decide

theorem witness_JsrPushesPcMinusOne :
    State.reset.mem.wf = true ∧ isDevice State.reset.config (stackAddr State.reset.sp) = false ∧
      isDevice State.reset.config (stackAddr (State.reset.sp - 1)) = false := by decide

theorem witness_RtsAfterJsrReturns : State.reset.mem.wf = true ∧ StackIsRam State.reset :=
  ⟨rfl, stackIsRam_reset⟩

theorem witness_FlagInstructionsWriteOneBit :
    (Instr.clc).form = .implied .clc ∧ flagWrite .clc = some (.C, false) ∧ (Instr.sed).form = .implied .sed ∧
      flagWrite .sed = some (.D, true) := by decide

theorem witness_PushInstructionsStoreAOrP : State.reset.mem.wf = true := by decide

theorem witness_BrkFilesAnIrqRequest :
    State.reset.fault = none ∧ State.reset.clockMode = .running ∧ getFlag State.reset.p .I = false ∧
      getFlag (State.reset.setP 0x24).p .I = true := by decide

theorem witness_ResetServiceLoadsTheVector : State.reset.pending = .reset := by decide

theorem witness_InterruptEntryPushesPcAndP :
    State.reset.mem.wf = true ∧
      ((State.reset.setPending .irq).pending = .irq ∧ getFlag (State.reset.setPending .irq).p .I = false ∧
        (0xFFFE : Addr) = 0xFFFE) ∧
      ((State.reset.setPending .nmi).pending = .nmi ∧ (0xFFFE : Addr) = State.reset.config.nmiVector) ∧
      isDevice State.reset.config 0xFFFE = false ∧ isDevice State.reset.config (0xFFFE + 1) = false := by decide

theorem witness_MaskedIrqStaysPending :
    (State.reset.setPending .none).pending = .none ∧
      ((State.reset.setPending .irq).setP 0x24).pending = .irq ∧
      getFlag ((State.reset.setPending .irq).setP 0x24).p .I = true ∧
      getFlag (State.reset.setPending .irq).p .I = false ∧ (State.reset.setPending .nmi).pending = .nmi ∧
      State.reset.pending = .reset := by decide

theorem reset_inv : State.reset.Inv := ⟨by decide, by decide⟩

theorem witness_RtiAfterEntryRestores :
    (State.reset.setPending .irq).Inv ∧ StackIsRam (State.reset.setPending .irq) ∧
      ((State.reset.setPending .irq).pending = .irq ∧ getFlag (State.reset.setPending .irq).p .I = false) ∧
      (State.reset.setPending .nmi).pending = .nmi :=
  ⟨⟨by decide, by decide⟩, fun _ => rfl, by decide, rfl⟩

theorem witness_ResetThenServiceGivesTheTableOfValues :
    State.reset.fault = none ∧ isDevice State.reset.config 0xFFFC = false ∧
      isDevice State.reset.config 0xFFFD = false ∧
      (State.reset.setFault (some (.invalidOpcode 0x02))).fault ≠ none := by decide

theorem witness_HostInputsWriteTheLatchAndTheClock :
    State.reset.fault = none ∧ (State.reset.setFault (some (.invalidOpcode 0x02))).fault ≠ none := by decide

theorem witness_LastTriggerWins : State.reset.fault = none := by decide

theorem witness_ClockModeFollowsTheTable :
    State.reset.fault = none ∧ State.reset.clockMode = .running ∧
      exec .wai State.reset = .next (State.reset.setClockMode .waitForInterrupt) ∧
      exec .nop State.reset = .next State.reset := ⟨rfl, rfl, rfl, rfl⟩

theorem witness_StepRunsTheDecodedInstruction :
    let s := State.reset.withFetchWord 24 0x1234AD
    let u := s.atFetch
    s.fault = none ∧ (takeInputs s).clockMode = .running ∧
      decode u.config [u.peek u.pc, u.peek (u.pc + 1), u.peek (u.pc + 2)] = .ok (.ldaAbs 0x1234, []) ∧
      isDevice u.config (u.pc + BitVec.ofNat 16 0) = false ∧
      isDevice u.config (u.pc + BitVec.ofNat 16 2) = false := by decide

/-- The first clause where RAM answers both bytes. -/
theorem witness_StepRunsTheDecodedInstruction_ram :
    let s := at200 [0xA9, 0x80]
    let u := s.atFetch
    s.fault = none ∧ (takeInputs s).clockMode = .running ∧
      decode u.config (portReads (Instr.ldaImm 0x80).length u.pc u).1 = .ok (.ldaImm 0x80, []) := by decide

/-- The first clause where a device answers the operand byte, whatever it answers. -/
theorem witness_StepRunsTheDecodedInstruction_device :
    let s := withConfig (at200 [0xA9]) { Config.default with devices := [⟨0x0201, 0x0201⟩] }
    let u := s.atFetch
    let i := Instr.ldaImm (Config.hostByte 0 0x0201)
    s.fault = none ∧ (takeInputs s).clockMode = .running ∧ isDevice u.config (u.pc + 1) = true ∧
      decode u.config (portReads i.length u.pc u).1 = .ok (i, []) := ⟨rfl, rfl, rfl, rfl⟩

/-- The first clause where a device answers the opcode itself, should the host answer NOP. -/
theorem witness_StepRunsTheDecodedInstruction_opcode (h : Config.hostByte 0 0x0200 = 0xEA) :
    let s := withConfig (at200 []) { Config.default with devices := [⟨0x0200, 0x02FF⟩] }
    let u := s.atFetch
    s.fault = none ∧ (takeInputs s).clockMode = .running ∧ isDevice u.config u.pc = true ∧
      decode u.config (portReads (Instr.nop).length u.pc u).1 = .ok (.nop, []) := by
  refine ⟨rfl, rfl, rfl, ?_⟩
  change decode _ [Config.hostByte 0 0x0200] = _
  rw [h]
  rfl

theorem witness_UnboundOpcodeLatchesInvalidOpcode :
    let u := (at200 [0x02]).atFetch
    (at200 [0x02]).fault = none ∧ (takeInputs (at200 [0x02])).clockMode = .running ∧
      (memRead u.pc u).1 = 0x02 ∧ decodeOpcode u.config 0x02 = none := by decide

theorem witness_OnlyInvalidOpcodeEndsARun :
    State.reset.fault = none ∧
      (State.reset.setFault (some (.invalidOpcode 0xFF))).fault = some (.invalidOpcode 0xFF) := by decide

theorem witness_StoppedClockMakesNoPortCall :
    let s := State.reset.setClockMode .paused
    let w := State.reset.setClockMode .waitForInterrupt
    s.fault = none ∧ (takeInputs s).clockMode ≠ .running ∧ (takeInputs w).clockMode ≠ .running ∧
      s.schedule = [] := by decide

theorem witness_RetireCountsAndAppliesTheCap :
    (withConfig State.reset ⟨true, false, 0xFFFE, true, false, some 1, []⟩).config.maxInstructions = some 1 ∧
      State.reset.config.maxInstructions = none := by decide

theorem witness_StepKeepsTheInvariant : State.reset.Inv ∧ ∃ t, step State.reset = .next t :=
  ⟨reset_inv, _, rfl⟩

theorem witness_ResetEstablishesTheInvariant : Memory.wf [(0xFFFF, 0xFF)] = true := by decide

theorem witness_EveryRunFromResetIsSound :
    Memory.wf [] = true ∧
      ∃ t, Steps 1 ((applyInput (State.atConstruction 0 0 0 0 0 0 [] Config.default) .reset).setSchedule []) t :=
  ⟨rfl, _, .tail (.refl _) rfl⟩

theorem witness_StepOnlyAddsToTheHistory : ∃ t, step State.reset = .next t := ⟨_, rfl⟩

theorem witness_FlagsChangeOnlyByTheirWriters :
    (∃ t, exec .clc State.reset = .next t) ∧ writesFlag (Instr.clc).form .D = false ∧
      HostInput.startClock ≠ .reset ∧ (Flag.N ≠ .B ∨ ∀ b, HostInput.startClock ≠ .triggerIRQB b) ∧
      State.reset.config.entrySetsI = false :=
  ⟨⟨_, rfl⟩, rfl, by decide, .inl (by decide), rfl⟩

theorem witness_RegistersChangeOnlyByTheirWriters :
    (∃ t, exec (.ldaImm 1) State.reset = .next t ∧ t.a ≠ State.reset.a) ∧
      (∃ t, exec .inx State.reset = .next t ∧ t.x ≠ State.reset.x) ∧
      (∃ t, exec .dey State.reset = .next t ∧ t.y ≠ State.reset.y) ∧
      (∃ t, exec .pha State.reset = .next t ∧ t.sp ≠ State.reset.sp) ∧
      (∃ t, exec (.jmpAbs 0xFFFF) State.reset = .next t ∧ t.pc ≠ State.reset.pc) ∧
      (∃ t, exec .wai State.reset = .next t ∧ t.clockMode ≠ State.reset.clockMode) ∧
      ∃ t, exec .brk State.reset = .next t ∧ t.pending ≠ State.reset.pending :=
  ⟨⟨_, rfl, by decide⟩, ⟨_, rfl, by decide⟩, ⟨_, rfl, by decide⟩, ⟨_, rfl, by decide⟩, ⟨_, rfl, by decide⟩,
    ⟨_, rfl, by decide⟩, ⟨_, rfl, by decide⟩⟩

theorem witness_MemoryChangesOnlyWhereStored :
    State.reset.mem.wf = true ∧ (∃ t, exec (.staZp 0xFF) State.reset = .next t) ∧
      (0x0100 : Addr) ∉ storedAddrs (Instr.staZp 0xFF).form State.reset :=
  ⟨rfl, ⟨_, rfl⟩, by decide⟩

theorem witness_PortCallsAreExactlyTheTables : ∃ t, exec (.incAbs 0xFFFF) State.reset = .next t := ⟨_, rfl⟩

theorem witness_DecimalFlagIsInert :
    (Instr.adcImm 0x99) ≠ .php ∧ ∃ t, exec (.adcImm 0x99) State.reset = .next t :=
  ⟨by decide, _, rfl⟩

end Sys2Proof.Tests
end

/-!
SUPPORT. The proofs of the family 10_state.md: the registers, the flags, the latch, the count and the history
that instructions, inputs, interrupts and steps leave alone, and what they write.
-/

namespace Sys2Proof.Machine

open Sys2Proof.Spec

/-! ### The frame of an operation -/

/-- The registers other than `P` (10_state.md R10 to R12, R19, R20). -/
inductive Reg where
  | a | x | y | sp | pc | clockMode | latch

/-- From `s` to `t` nothing but the listed registers and flags changed, and port calls were only added to the
log. RAM is not spoken of. -/
structure Frame (regs : List Reg) (flags : List Flag) (s t : State) : Prop where
  a : .a ∉ regs → t.a = s.a
  x : .x ∉ regs → t.x = s.x
  y : .y ∉ regs → t.y = s.y
  sp : .sp ∉ regs → t.sp = s.sp
  pc : .pc ∉ regs → t.pc = s.pc
  clockMode : .clockMode ∉ regs → t.clockMode = s.clockMode
  pending : .latch ∉ regs → t.pending = s.pending
  flags : FlagsKept s.p t.p flags
  log : s.portLog <:+ t.portLog

/-- One operation after another writes what the two write. -/
theorem Frame.trans {rs rs' : List Reg} {fs fs' : List Flag} {s t u : State}
    (h : Frame rs fs s t) (h' : Frame rs' fs' t u) : Frame (rs ++ rs') (fs ++ fs') s u := by
  constructor
  case flags =>
    intro f hf
    rw [List.mem_append, not_or] at hf
    exact (h'.flags f hf.2).trans (h.flags f hf.1)
  case log => exact h.log.trans h'.log
  all_goals
    intro hr
    rw [List.mem_append, not_or] at hr
  case a => exact (h'.a hr.2).trans (h.a hr.1)
  case x => exact (h'.x hr.2).trans (h.x hr.1)
  case y => exact (h'.y hr.2).trans (h.y hr.1)
  case sp => exact (h'.sp hr.2).trans (h.sp hr.1)
  case pc => exact (h'.pc hr.2).trans (h.pc hr.1)
  case clockMode => exact (h'.clockMode hr.2).trans (h.clockMode hr.1)
  case pending => exact (h'.pending hr.2).trans (h.pending hr.1)

section
variable (s : State)

theorem frame_refl : Frame [] [] s s := by constructor <;> simp [FlagsKept]

/-! Port calls write no register and no flag. -/

theorem frame_memRead (a : Addr) : Frame [] [] s (memRead a s).2 := by
  constructor <;> simp [FlagsKept]

theorem frame_memWrite (a : Addr) (v : Byte) : Frame [] [] s (memWrite a v s) := by
  constructor <;> simp [FlagsKept]

theorem frame_memRead16 (a : Addr) : Frame [] [] s (memRead16 a s).2 :=
  (frame_memRead s a).trans (frame_memRead _ (a + 1))

theorem frame_effAddr (m : MemOperand) : Frame [] [] s (effAddr m s).2 := by
  cases m with
  | indexedIndirect zp => exact frame_memRead16 s _
  | indirectIndexed zp => exact frame_memRead16 s _
  | _ => exact frame_refl s

theorem frame_fetch (o : ReadOperand) : Frame [] [] s (fetch o s).2 := by
  cases o with
  | immediate v => exact frame_refl s
  | mem m => exact (frame_effAddr s m).trans (frame_memRead _ _)

theorem frame_storeReady (m : MemOperand) : Frame [] [] s (storeReady s m) := by
  unfold storeReady
  dsimp only
  split
  · exact (frame_effAddr s m).trans (frame_memRead _ _)
  · exact frame_effAddr s m

theorem frame_store (m : MemOperand) (v : Byte) : Frame [] [] s (store m v s) :=
  (frame_storeReady s m).trans (frame_memWrite _ _ v)

/-! One register or one flag written. -/

theorem frame_setA (v : Byte) : Frame [.a] [] s (s.setA v) := by constructor <;> simp [FlagsKept]
theorem frame_setX (v : Byte) : Frame [.x] [] s (s.setX v) := by constructor <;> simp [FlagsKept]
theorem frame_setY (v : Byte) : Frame [.y] [] s (s.setY v) := by constructor <;> simp [FlagsKept]
theorem frame_setSp (v : Byte) : Frame [.sp] [] s (s.setSp v) := by constructor <;> simp [FlagsKept]
theorem frame_setPc (v : Addr) : Frame [.pc] [] s (s.setPc v) := by constructor <;> simp [FlagsKept]

theorem frame_setClockMode (v : ClockMode) : Frame [.clockMode] [] s (s.setClockMode v) := by
  constructor <;> simp [FlagsKept]

theorem frame_setPending (v : PendingInterrupt) : Frame [.latch] [] s (s.setPending v) := by
  constructor <;> simp [FlagsKept]

theorem frame_setP {fs : List Flag} {p : Byte} (h : FlagsKept s.p p fs) : Frame [] fs s (s.setP p) := by
  constructor <;> simp [h]

theorem frame_writeFlag (f : Flag) (b : Bool) : Frame [] [f] s (s.writeFlag f b) :=
  frame_setP s fun g hg => by simp_all

/-! `Norm` and the computations over it. -/

/-- The flags that a status byte loaded whole can change: all eight. -/
def allFlags : List Flag := [.N, .V, .K, .B, .D, .I, .Z, .C]

theorem mem_allFlags (f : Flag) : f ∈ allFlags := by cases f <;> decide

theorem frame_norm (raw : Nat) : Frame [] [.N, .Z] s (norm raw false s).2 :=
  frame_setP s fun g hg => by simp_all

theorem frame_normCarry (raw : Nat) : Frame [] [.N, .Z, .C] s (norm raw true s).2 :=
  frame_setP s fun g hg => by simp_all

theorem frame_normToA (raw : Nat) : Frame [.a] [.N, .Z] s (normToA raw s) :=
  (frame_norm s raw).trans (frame_setA _ _)

theorem frame_normToX (raw : Nat) : Frame [.x] [.N, .Z] s (normToX raw s) :=
  (frame_norm s raw).trans (frame_setX _ _)

theorem frame_normToY (raw : Nat) : Frame [.y] [.N, .Z] s (normToY raw s) :=
  (frame_norm s raw).trans (frame_setY _ _)

theorem frame_addWithCarry (w : Byte) : Frame [.a] [.V, .N, .Z, .C] s (addWithCarry w s) :=
  (frame_writeFlag s .V _).trans ((frame_normCarry _ _).trans (frame_setA _ _))

theorem frame_compareWith (reg v : Byte) : Frame [] [.N, .Z, .C] s (compareWith reg v s) :=
  frame_normCarry s _

theorem frame_bitTest (v : Byte) : Frame [] [.Z, .N, .V] s (bitTest v s) :=
  (frame_writeFlag s .Z _).trans ((frame_writeFlag _ .N _).trans (frame_writeFlag _ .V _))

/-! The stack, jumps and interrupts. -/

theorem frame_push8 (v : Byte) : Frame [.sp] [] s (push8 v s) :=
  (frame_memWrite s _ v).trans (frame_setSp _ _)

theorem frame_push16 (v : Addr) : Frame [.sp, .sp] [] s (push16 v s) :=
  (frame_push8 s _).trans (frame_push8 _ _)

theorem frame_pull8 : Frame [.sp] [] s (pull8 s).2 :=
  (frame_setSp s _).trans (frame_memRead _ _)

theorem frame_pull16 : Frame [.sp, .sp] [] s (pull16 s).2 :=
  (frame_pull8 s).trans (frame_pull8 _)

theorem frame_pullA : Frame [.sp, .a] [.N, .Z] s (pullA s) :=
  (frame_pull8 s).trans (frame_normToA _ _)

theorem frame_pullStatus : Frame [.sp] allFlags s (pullStatus s) :=
  (frame_pull8 s).trans (frame_setP _ fun f hf => absurd (mem_allFlags f) hf)

theorem frame_branchIf (c : Bool) (d : Byte) : Frame [.pc] [] s (branchIf c d s) := by
  rw [branchIf_eq]
  exact frame_setPc s _

theorem frame_jumpIndirect (v : Addr) : Frame [.pc] [] s (jumpIndirect v s) :=
  (frame_memRead16 s v).trans (frame_setPc _ _)

theorem frame_callSubroutine (v : Addr) : Frame [.sp, .sp, .pc] [] s (callSubroutine v s) :=
  (frame_push16 s _).trans (frame_setPc _ v)

theorem frame_returnFromSubroutine : Frame [.sp, .sp, .pc] [] s (returnFromSubroutine s) :=
  (frame_pull16 s).trans (frame_setPc _ _)

theorem frame_returnFromInterrupt :
    Frame [.sp, .sp, .sp, .pc] allFlags s (returnFromInterrupt s) :=
  (frame_pullStatus s).trans ((frame_pull16 _).trans (frame_setPc _ _))

theorem frame_requestIrq (b : Bool) : Frame [.latch] [.B] s (requestIrq b s) :=
  (frame_writeFlag s .B b).trans (frame_setPending _ _)

theorem frame_jumpThroughVector (v : Addr) : Frame [.pc, .latch] [] s (jumpThroughVector v s) :=
  (frame_memRead16 s v).trans ((frame_setPc _ _).trans (frame_setPending _ _))

end

end Sys2Proof.Machine

namespace Sys2Proof

open Machine Spec

/-! ### The frame of every instruction -/

/-- The flags a read-modify-write family writes (10_state.md R14). -/
def RmwFamily.flags : RmwFamily → List Flag
  | .asl => [.N, .Z, .C]
  | .lsr => [.N, .Z, .C]
  | .rol => [.N, .Z, .C]
  | .ror => [.N, .Z, .C]
  | .inc => [.N, .Z]
  | .dec => [.N, .Z]

theorem RmwFamily.frame_compute (f : RmwFamily) (v : Byte) (s : State) :
    Frame [] f.flags s (f.compute v s).2 := by
  cases f
  case asl => exact frame_normCarry s _
  case lsr => exact (frame_norm s _).trans (frame_writeFlag _ .C _)
  case rol => exact frame_normCarry s _
  case ror => exact (frame_norm s _).trans (frame_writeFlag _ .C _)
  case inc => exact frame_norm s _
  case dec => exact frame_norm s _

/-- The register a read-modify-write operand stands for. -/
def RmwOperand.regs : RmwOperand → List Reg
  | .accumulator => [.a]
  | .mem _ => []

theorem frame_modify (f : RmwFamily) (o : RmwOperand) (s : State) :
    Frame o.regs f.flags s (modify o f.compute s) := by
  cases o with
  | accumulator =>
    have h := (f.frame_compute s.a s).trans (frame_setA _ (f.compute s.a s).1)
    rwa [List.append_nil] at h
  | mem m =>
    have h := (frame_fetch s (.mem m)).trans
      ((f.frame_compute (fetchMem m s).1 (fetchMem m s).2).trans
        (frame_memWrite _ (effAddr m s).1 (f.compute (fetchMem m s).1 (fetchMem m s).2).1))
    simp only [List.append_nil, List.nil_append] at h
    exact h

/-- The registers an instruction of each form can write. -/
def Form.regs : Form → List Reg
  | .read .lda _ | .read .ora _ | .read .and _ | .read .eor _ | .read .adc _ | .read .sbc _ => [.a]
  | .read .ldx _ => [.x]
  | .read .ldy _ => [.y]
  | .read .cmp _ | .read .cpx _ | .read .cpy _ | .read .bit _ => []
  | .store _ _ => []
  | .rmw _ o => o.regs
  | .branch _ _ => [.pc]
  | .jump _ => [.pc]
  | .jumpIndirect _ => [.pc]
  | .call _ => [.sp, .sp, .pc]
  | .implied op =>
    match op with
    | .inx | .dex | .tax | .tsx => [.x]
    | .iny | .dey | .tay => [.y]
    | .txa | .tya => [.a]
    | .rts => [.sp, .sp, .pc]
    | .rti => [.sp, .sp, .sp, .pc]
    | .txs | .pha | .php | .plp => [.sp]
    | .pla => [.sp, .a]
    | .brk => [.latch]
    | .wai => [.clockMode]
    | .clc | .sec | .cli | .sei | .clv | .cld | .sed | .nop => []

/-- The flags an instruction of each form can write. -/
def Form.flags : Form → List Flag
  | .read .adc _ | .read .sbc _ => [.V, .N, .Z, .C]
  | .read .cmp _ | .read .cpx _ | .read .cpy _ => [.N, .Z, .C]
  | .read .bit _ => [.Z, .N, .V]
  | .read _ _ => [.N, .Z]
  | .rmw f _ => f.flags
  | .implied op =>
    match op with
    | .inx | .iny | .dex | .dey | .tax | .txa | .tay | .tya | .tsx | .pla => [.N, .Z]
    | .clc | .sec => [.C]
    | .cli | .sei => [.I]
    | .clv => [.V]
    | .cld | .sed => [.D]
    | .plp | .rti => allFlags
    | .brk => [.B]
    | .rts | .txs | .pha | .php | .nop | .wai => []
  | .store _ _ | .branch _ _ | .jump _ | .jumpIndirect _ | .call _ => []

/-- What an instruction of each form leaves unchanged. -/
theorem frame_effect (fm : Form) (s : State) : Frame fm.regs fm.flags s (fm.effect s) := by
  match fm with
  | .read f o =>
    cases f
    case lda => exact (frame_fetch s o).trans (frame_normToA _ _)
    case ldx => exact (frame_fetch s o).trans (frame_normToX _ _)
    case ldy => exact (frame_fetch s o).trans (frame_normToY _ _)
    case ora => exact (frame_fetch s o).trans (frame_normToA _ _)
    case and => exact (frame_fetch s o).trans (frame_normToA _ _)
    case eor => exact (frame_fetch s o).trans (frame_normToA _ _)
    case adc => exact (frame_fetch s o).trans (frame_addWithCarry _ _)
    case sbc => exact (frame_fetch s o).trans (frame_addWithCarry _ _)
    case cmp => exact (frame_fetch s o).trans (frame_compareWith _ _ _)
    case cpx => exact (frame_fetch s o).trans (frame_compareWith _ _ _)
    case cpy => exact (frame_fetch s o).trans (frame_compareWith _ _ _)
    case bit => exact (frame_fetch s o).trans (frame_bitTest _ _)
  | .store f m => cases f <;> exact frame_store s m _
  | .rmw f o => exact frame_modify f o s
  | .branch f d => cases f <;> exact frame_branchIf s _ d
  | .jump a => exact frame_setPc s a
  | .jumpIndirect a => exact frame_jumpIndirect s a
  | .call a => exact frame_callSubroutine s a
  | .implied op =>
    cases op
    case inx => exact frame_normToX s _
    case dex => exact frame_normToX s _
    case tax => exact frame_normToX s _
    case tsx => exact frame_normToX s _
    case iny => exact frame_normToY s _
    case dey => exact frame_normToY s _
    case tay => exact frame_normToY s _
    case txa => exact frame_normToA s _
    case tya => exact frame_normToA s _
    case txs => exact frame_setSp s _
    case pha => exact frame_push8 s _
    case php => exact frame_push8 s _
    case pla => exact frame_pullA s
    case plp => exact frame_pullStatus s
    case rts => exact frame_returnFromSubroutine s
    case rti => exact frame_returnFromInterrupt s
    case nop => exact frame_refl s
    case brk => exact frame_requestIrq s true
    case wai => exact frame_setClockMode s _
    all_goals exact frame_writeFlag s _ _

theorem frame_exec {i : Instr} {s t : State} (h : exec i s = .next t) :
    Frame i.form.regs i.form.flags s t := by
  rw [exec_eq_effect] at h
  cases h
  exact frame_effect i.form s

/-- Every flag an instruction can write is one the table of 10_state.md R14 lists for it. -/
theorem Form.writesFlag_of_mem_flags (fm : Form) : ∀ f ∈ fm.flags, writesFlag fm f = true := by
  match fm with
  | .read g _ => cases g <;> simp [Form.flags, writesFlag]
  | .rmw g _ => cases g <;> simp [Form.flags, RmwFamily.flags, writesFlag]
  | .implied op => cases op <;> simp [Form.flags, allFlags, writesFlag]
  | .store _ _ | .branch _ _ | .jump _ | .jumpIndirect _ | .call _ => simp [Form.flags]

end Sys2Proof

namespace Sys2Proof.Machine

open Sys2Proof.Spec

/-! ### The flags -/

section
variable (s : State)

/-- An input other than `reset()` writes no flag but B, and B only as `triggerIRQB` (60_exceptions.md R165). -/
theorem applyInput_getFlag {i : HostInput} (hr : i ≠ .reset) {f : Flag}
    (hf : f ≠ .B ∨ ∀ b, i ≠ .triggerIRQB b) : getFlag (applyInput s i).p f = getFlag s.p f := by
  unfold applyInput
  split
  · cases i with
    | reset => exact absurd rfl hr
    | triggerIRQB b =>
      have hB : f ≠ .B := hf.resolve_right fun h => h b rfl
      simpa [inputIrq] using (frame_requestIrq s b).flags f (by simpa using hB)
    | triggerNMIB => simp [inputNmi, requestNmi]
    | startClock => rfl
    | pauseClock => rfl
  · rfl

/-- Without `ENTRY_SETS_I` the interrupt check leaves the status byte as it is (60_exceptions.md R171). -/
theorem interruptCheck_p_of_not_entrySetsI (h : s.config.entrySetsI = false) :
    (interruptCheck s).p = s.p := by
  unfold interruptCheck
  split
  case h_4 =>
    split
    · rfl
    · simp [serviceIrq, enterInterrupt_p, h]
  all_goals simp [serviceReset, serviceNmi, enterInterrupt_p, h]

end

/-- Settles O55: the frame of each instruction lists no flag that the table of R14 does not. -/
theorem flagsChangeOnlyByTheirWriters : Obligations.FlagsChangeOnlyByTheirWriters := by
  refine ⟨fun i s t f hexec hw => ?_, fun s i f hr hf => applyInput_getFlag s hr hf, fun s f hf => ?_⟩
  · refine (frame_exec hexec).flags f fun hmem => ?_
    rw [i.form.writesFlag_of_mem_flags f hmem] at hw
    cases hw
  · obtain hI | hc := hf
    · exact interruptCheck_getFlag s hI
    · rw [interruptCheck_p_of_not_entrySetsI s hc]

end Sys2Proof.Machine

namespace Sys2Proof

open Machine

/-! ### The registers -/

/-- The instruction of each mnemonic without an operand. -/
def ImpliedOp.instr : ImpliedOp → Instr
  | .inx => .inx
  | .iny => .iny
  | .dex => .dex
  | .dey => .dey
  | .rts => .rts
  | .tax => .tax
  | .txa => .txa
  | .tay => .tay
  | .tya => .tya
  | .tsx => .tsx
  | .txs => .txs
  | .clc => .clc
  | .sec => .sec
  | .cli => .cli
  | .sei => .sei
  | .clv => .clv
  | .cld => .cld
  | .sed => .sed
  | .pha => .pha
  | .pla => .pla
  | .php => .php
  | .plp => .plp
  | .nop => .nop
  | .brk => .brk
  | .rti => .rti
  | .wai => .wai

theorem Instr.eq_of_form_implied {i : Instr} {op : ImpliedOp} (h : i.form = .implied op) :
    i = op.instr := by
  cases i <;> cases h <;> rfl

theorem Instr.eq_of_form_jump {i : Instr} {a : Addr} (h : i.form = .jump a) : i = .jmpAbs a := by
  cases i <;> cases h
  rfl

theorem Instr.eq_of_form_jumpIndirect {i : Instr} {a : Addr} (h : i.form = .jumpIndirect a) :
    i = .jmpInd a := by
  cases i <;> cases h
  rfl

theorem Instr.eq_of_form_call {i : Instr} {a : Addr} (h : i.form = .call a) : i = .jsr a := by
  cases i <;> cases h
  rfl

/-- The instruction is one of the writers that the rules of 10_state.md R10 to R12, R19 and R20 name for the
register. -/
def Instr.Writes (i : Instr) : Reg → Prop
  | .a => (∃ f o, i.form = .read f o ∧ f ∈ [.lda, .ora, .and, .eor, .adc, .sbc]) ∨
      (∃ f, i.form = .rmw f .accumulator) ∨ i ∈ [.pla, .txa, .tya]
  | .x => (∃ o, i.form = .read .ldx o) ∨ i ∈ [.tax, .tsx, .inx, .dex]
  | .y => (∃ o, i.form = .read .ldy o) ∨ i ∈ [.tay, .iny, .dey]
  | .sp => (∃ a, i = .jsr a) ∨ i ∈ [.pha, .php, .pla, .plp, .rts, .rti, .txs]
  | .pc => (∃ f d, i.form = .branch f d) ∨ (∃ a, i = .jmpAbs a ∨ i = .jmpInd a ∨ i = .jsr a) ∨
      i ∈ [.rts, .rti]
  | .clockMode => i = .wai
  | .latch => i = .brk

/-- Every register in the frame of an instruction is one that the rules let it write. -/
theorem Instr.writes_of_mem_regs (i : Instr) : ∀ r ∈ i.form.regs, i.Writes r := by
  cases h : i.form with
  | read f o => cases f <;> simp [Form.regs, Instr.Writes, h]
  | store f m => simp [Form.regs]
  | rmw f o => cases o <;> simp [Form.regs, RmwOperand.regs, Instr.Writes, h]
  | branch f d => simp [Form.regs, Instr.Writes, h]
  | jump a => simp [Form.regs, Instr.Writes, Instr.eq_of_form_jump h]
  | jumpIndirect a => simp [Form.regs, Instr.Writes, Instr.eq_of_form_jumpIndirect h]
  | call a => simp [Form.regs, Instr.Writes, Instr.eq_of_form_call h]
  | implied op =>
    rw [Instr.eq_of_form_implied h]
    cases op <;> simp [Form.regs, Instr.Writes, ImpliedOp.instr]

end Sys2Proof

namespace Sys2Proof.Machine

/-- Settles O56: what changed is in the frame of the instruction, and the frame lists writers only. -/
theorem registersChangeOnlyByTheirWriters : Obligations.RegistersChangeOnlyByTheirWriters := by
  intro i s t h
  have hk : Keeps s t := exec_keeps h
  have hf : Frame i.form.regs i.form.flags s t := frame_exec h
  have changed {r : Reg} {p : Prop} (hkept : r ∉ i.form.regs → p) (hne : ¬ p) : i.Writes r :=
    i.writes_of_mem_regs r (not_imp_comm.mp hkept hne)
  exact ⟨changed hf.a, changed hf.x, changed hf.y, changed hf.sp, changed hf.pc, changed hf.clockMode,
    changed hf.pending, hk.executed, hk.fault, hk.config, hk.schedule⟩

end Sys2Proof.Machine

namespace Sys2Proof.Machine

open Sys2Proof.Spec

/-! ### The decimal flag

A flag that an operation neither reads nor writes may be written before the operation or after it. Port calls,
addresses and the stack do not look at `P`; the computations look at C alone. -/

/-- Writes of two flags may change places. -/
theorem setFlag_comm (p : Byte) {f g : Flag} (h : f ≠ g) (b c : Bool) :
    setFlag (setFlag p f b) g c = setFlag (setFlag p g c) f b := by
  refine status_ext fun k => ?_
  by_cases hg : k = g
  · simp [hg, h.symm]
  · simp [hg]

section
variable (s : State) (f : Flag) (b : Bool)

@[simp] theorem writeFlag_a : (s.writeFlag f b).a = s.a := rfl
@[simp] theorem writeFlag_x : (s.writeFlag f b).x = s.x := rfl
@[simp] theorem writeFlag_y : (s.writeFlag f b).y = s.y := rfl
@[simp] theorem writeFlag_sp : (s.writeFlag f b).sp = s.sp := rfl
@[simp] theorem writeFlag_p : (s.writeFlag f b).p = setFlag s.p f b := rfl
@[simp] theorem writeFlag_pc : (s.writeFlag f b).pc = s.pc := rfl
@[simp] theorem writeFlag_config : (s.writeFlag f b).config = s.config := rfl

/-! Writing a register after a flag is writing it before: the flag is moved outwards. -/

@[simp] theorem setA_writeFlag (v : Byte) : (s.writeFlag f b).setA v = (s.setA v).writeFlag f b := rfl
@[simp] theorem setX_writeFlag (v : Byte) : (s.writeFlag f b).setX v = (s.setX v).writeFlag f b := rfl
@[simp] theorem setY_writeFlag (v : Byte) : (s.writeFlag f b).setY v = (s.setY v).writeFlag f b := rfl
@[simp] theorem setSp_writeFlag (v : Byte) : (s.writeFlag f b).setSp v = (s.setSp v).writeFlag f b := rfl
@[simp] theorem setP_writeFlag (v : Byte) : (s.writeFlag f b).setP v = s.setP v := rfl
@[simp] theorem setPc_writeFlag (v : Addr) : (s.writeFlag f b).setPc v = (s.setPc v).writeFlag f b := rfl

@[simp] theorem setPending_writeFlag (v : PendingInterrupt) :
    (s.writeFlag f b).setPending v = (s.setPending v).writeFlag f b := rfl

@[simp] theorem setClockMode_writeFlag (v : ClockMode) :
    (s.writeFlag f b).setClockMode v = (s.setClockMode v).writeFlag f b := rfl

/-! Operations that do not look at `P`. -/

@[simp] theorem memRead_writeFlag (a : Addr) :
    memRead a (s.writeFlag f b) = ((memRead a s).1, (memRead a s).2.writeFlag f b) := by
  simp only [writeFlag_eq, memRead_setP, memRead_p]

@[simp] theorem memWrite_writeFlag (a : Addr) (v : Byte) :
    memWrite a v (s.writeFlag f b) = (memWrite a v s).writeFlag f b := by
  cases h : isDevice s.config a
  · simp only [memWrite, writeFlag_config, h]; rfl
  · simp only [memWrite, writeFlag_config, h]; rfl

@[simp] theorem memRead16_writeFlag (a : Addr) :
    memRead16 a (s.writeFlag f b) = ((memRead16 a s).1, (memRead16 a s).2.writeFlag f b) := by
  simp [memRead16]

@[simp] theorem effAddr_writeFlag (m : MemOperand) :
    effAddr m (s.writeFlag f b) = ((effAddr m s).1, (effAddr m s).2.writeFlag f b) := by
  cases m <;> simp [effAddr]

@[simp] theorem fetchMem_writeFlag (m : MemOperand) :
    fetchMem m (s.writeFlag f b) = ((fetchMem m s).1, (fetchMem m s).2.writeFlag f b) := by
  simp [fetchMem]

@[simp] theorem fetch_writeFlag (o : ReadOperand) :
    fetch o (s.writeFlag f b) = ((fetch o s).1, (fetch o s).2.writeFlag f b) := by
  cases o <;> simp [fetch]

@[simp] theorem store_writeFlag (m : MemOperand) (v : Byte) :
    store m v (s.writeFlag f b) = (store m v s).writeFlag f b := by
  simp only [store, effAddr_writeFlag, writeFlag_config]
  split <;> simp

@[simp] theorem push8_writeFlag (v : Byte) : push8 v (s.writeFlag f b) = (push8 v s).writeFlag f b := by
  simp [push8]

@[simp] theorem push16_writeFlag (v : Addr) :
    push16 v (s.writeFlag f b) = (push16 v s).writeFlag f b := by
  simp [push16]

@[simp] theorem pull8_writeFlag :
    pull8 (s.writeFlag f b) = ((pull8 s).1, (pull8 s).2.writeFlag f b) := by
  simp [pull8]

@[simp] theorem pull16_writeFlag :
    pull16 (s.writeFlag f b) = ((pull16 s).1, (pull16 s).2.writeFlag f b) := by
  simp [pull16]

end

/-! Operations that look at C alone, or at no flag, and write flags other than D. -/

section
variable (s : State) (d : Bool)

theorem flagNat_setFlag {f g : Flag} (h : g ≠ f) (p : Byte) (b : Bool) :
    flagNat (setFlag p f b) g = flagNat p g := by
  simp [flagNat, h]

theorem writeFlag_comm {f g : Flag} (h : f ≠ g) (b c : Bool) :
    (s.writeFlag f b).writeFlag g c = (s.writeFlag g c).writeFlag f b := by
  simp only [writeFlag_eq, State.setP_p, State.setP_setP, setFlag_comm s.p h]

theorem writeFlag_again (f : Flag) (b c : Bool) :
    (s.writeFlag f b).writeFlag f c = s.writeFlag f c := by
  have h : setFlag (setFlag s.p f b) f c = setFlag s.p f c :=
    status_ext fun g => by by_cases hg : g = f <;> simp [hg]
  simp only [writeFlag_eq, State.setP_p, State.setP_setP, h]

theorem setNZ_setD (v p : Byte) : setNZ v (setFlag p .D d) = setFlag (setNZ v p) .D d := by
  simp only [setNZ, setFlag_comm _ (show Flag.D ≠ .Z by decide) d,
    setFlag_comm _ (show Flag.D ≠ .N by decide) d]

@[simp] theorem norm_writeD (raw : Nat) (c : Bool) :
    norm raw c (s.writeFlag .D d) = ((norm raw c s).1, (norm raw c s).2.writeFlag .D d) := by
  refine Prod.ext rfl ?_
  cases c
  · simp [norm_snd, writeFlag_eq, setNZ_setD]
  · simp [norm_snd, writeFlag_eq, setNZ_setD, setFlag_comm s.p (show Flag.D ≠ .C by decide) d]

@[simp] theorem normToA_writeD (raw : Nat) :
    normToA raw (s.writeFlag .D d) = (normToA raw s).writeFlag .D d := by
  simp [normToA]

@[simp] theorem normToX_writeD (raw : Nat) :
    normToX raw (s.writeFlag .D d) = (normToX raw s).writeFlag .D d := by
  simp [normToX]

@[simp] theorem normToY_writeD (raw : Nat) :
    normToY raw (s.writeFlag .D d) = (normToY raw s).writeFlag .D d := by
  simp [normToY]

@[simp] theorem addWithCarry_writeD (w : Byte) :
    addWithCarry w (s.writeFlag .D d) = (addWithCarry w s).writeFlag .D d := by
  have hV (b : Bool) := writeFlag_comm s (show Flag.D ≠ .V by decide) d b
  simp [addWithCarry, flagNat_setFlag, hV]

@[simp] theorem compareWith_writeD (reg v : Byte) :
    compareWith reg v (s.writeFlag .D d) = (compareWith reg v s).writeFlag .D d := by
  simp [compareWith]

@[simp] theorem bitTest_writeD (v : Byte) :
    bitTest v (s.writeFlag .D d) = (bitTest v s).writeFlag .D d := by
  simp only [bitTest, writeFlag_a, writeFlag_comm _ (show Flag.D ≠ .Z by decide) d,
    writeFlag_comm _ (show Flag.D ≠ .N by decide) d, writeFlag_comm _ (show Flag.D ≠ .V by decide) d]

@[simp] theorem compute_writeD (f : RmwFamily) (v : Byte) :
    f.compute v (s.writeFlag .D d) =
      ((f.compute v s).1, (f.compute v s).2.writeFlag .D d) := by
  have hC (t : State) (b : Bool) := writeFlag_comm t (show Flag.D ≠ .C by decide) d b
  cases f
  case asl => simp [RmwFamily.compute, shiftLeft]
  case lsr => simp [RmwFamily.compute, shiftRight, hC]
  case rol => simp [RmwFamily.compute, rotateLeft, flagNat_setFlag]
  case ror => simp [RmwFamily.compute, rotateRight, flagNat_setFlag, hC]
  case inc => simp [RmwFamily.compute, increment]
  case dec => simp [RmwFamily.compute, decrement]

theorem modify_writeD (f : RmwFamily) (o : RmwOperand) :
    modify o f.compute (s.writeFlag .D d) = (modify o f.compute s).writeFlag .D d := by
  cases o <;> simp [modify]

theorem branchIf_writeFlag (f : Flag) (b c : Bool) (disp : Byte) :
    branchIf c disp (s.writeFlag f b) = (branchIf c disp s).writeFlag f b := by
  cases c <;> rfl

/-- A status byte pulled over D forgets what D was. -/
theorem pullStatus_writeFlag (f : Flag) (b : Bool) : pullStatus (s.writeFlag f b) = pullStatus s := by
  simp [pullStatus]

end

/-- Every form but PHP's carries a change of D through, or loads D itself and drops the change. -/
theorem effect_writeD {fm : Form} (h : fm ≠ .implied .php) (s : State) (d : Bool) :
    fm.effect (s.writeFlag .D d) =
      if writesFlag fm .D then fm.effect s else (fm.effect s).writeFlag .D d := by
  match fm with
  | .read f o =>
    cases f
    case lda => simp [Form.effect, writesFlag, loadA]
    case ldx => simp [Form.effect, writesFlag, loadX]
    case ldy => simp [Form.effect, writesFlag, loadY]
    case ora => simp [Form.effect, writesFlag, orA]
    case and => simp [Form.effect, writesFlag, andA]
    case eor => simp [Form.effect, writesFlag, eorA]
    case adc => simp [Form.effect, writesFlag, addToA]
    case sbc => simp [Form.effect, writesFlag, subtractFromA]
    case cmp => simp [Form.effect, writesFlag, compareA]
    case cpx => simp [Form.effect, writesFlag, compareX]
    case cpy => simp [Form.effect, writesFlag, compareY]
    case bit => simp [Form.effect, writesFlag, testBits]
  | .store f m => cases f <;> simp [Form.effect, writesFlag]
  | .rmw f o => exact modify_writeD s d f o
  | .branch f disp => cases f <;> simp [Form.effect, writesFlag, branchIf_writeFlag]
  | .jump a => rfl
  | .jumpIndirect a => simp [Form.effect, writesFlag, jumpIndirect]
  | .call a => simp [Form.effect, writesFlag, callSubroutine]
  | .implied op =>
    have hne (f : Flag) (hf : Flag.D ≠ f) (b : Bool) := writeFlag_comm s hf d b
    cases op
    case php => exact absurd rfl h
    case plp => exact pullStatus_writeFlag s .D d
    case rti => simp [Form.effect, writesFlag, returnFromInterrupt, pullStatus_writeFlag]
    case cld => exact writeFlag_again s .D d false
    case sed => exact writeFlag_again s .D d true
    case rts => simp [Form.effect, writesFlag, returnFromSubroutine]
    case pla => simp [Form.effect, writesFlag, pullA]
    case clc => exact hne .C (by decide) false
    case sec => exact hne .C (by decide) true
    case cli => exact hne .I (by decide) false
    case sei => exact hne .I (by decide) true
    case clv => exact hne .V (by decide) false
    case brk => simp [Form.effect, writesFlag, requestIrq, hne .B]
    all_goals simp [Form.effect, writesFlag]

/-- Settles O59: the execute stage is the effect of the form, which carries D through. -/
theorem decimalFlagIsInert : Obligations.DecimalFlagIsInert := by
  intro i s t d hphp h
  have hform : i.form ≠ .implied .php := fun hf => hphp (Instr.eq_of_form_implied hf)
  rw [exec_eq_effect] at h ⊢
  cases h
  rw [effect_writeD hform]

end Sys2Proof.Machine

namespace Sys2Proof.Machine

open Sys2Proof.Spec

/-! ### The status byte and `Norm` -/

/-- A flag as a number is its binary digit of the status byte (10_state.md R13). -/
theorem flagNat_eq_digit (p : Byte) (f : Flag) : flagNat p f = p.toNat / 2 ^ f.bit % 2 := by
  rw [flagNat, getFlag, BitVec.getLsbD, Nat.toNat_testBit]

/-- Settles O7: the flags are the eight binary digits of the byte. -/
theorem statusByteIsItsEightFlags : Obligations.StatusByteIsItsEightFlags := by
  refine ⟨fun p => ?_, fun p f b => ⟨by simp, fun g hg => ?_⟩⟩
  · have := p.isLt
    simp only [flagNat_eq_digit, Flag.bit]
    omega
  · have hne : g ≠ f := by simpa using hg
    simp [hne]

/-- Settles O8: N and Z as `SetNZ` writes them, C as the bit of weight 256. -/
theorem normSetsNZAndTheCarryAsked : Obligations.NormSetsNZAndTheCarryAsked := by
  intro raw c s hraw
  have hmod : (BitVec.ofNat 8 raw : Byte) = BitVec.ofNat 8 (raw % 256) :=
    BitVec.eq_of_toNat_eq (by simp)
  have hN : (BitVec.ofNat 8 raw : Byte).getLsbD 7 = decide (128 ≤ raw % 256) := by
    have h7 : raw / 128 % 2 = 1 ↔ 128 ≤ raw % 256 := by omega
    rw [BitVec.getLsbD_ofNat, Nat.testBit_eq_decide_div_mod_eq]
    simp [h7]
  have hZ : ((BitVec.ofNat 8 raw : Byte) == 0) = decide (raw % 256 = 0) := by
    rw [Bool.eq_iff_iff, beq_iff_eq, decide_eq_true_iff, ← BitVec.toNat_inj]
    simp
  have hC : raw.testBit 8 = decide (256 ≤ raw) := by
    rw [Nat.testBit_eq_decide_div_mod_eq, decide_eq_decide]
    omega
  refine ⟨_, Prod.ext hmod (norm_snd raw c s), ?_, ?_, ?_, fun f hf => ?_⟩
  · rw [getFlag_setNZ, if_pos rfl, hN]
  · rw [getFlag_setNZ, if_neg (by decide), if_pos rfl, hZ]
  · cases c <;> simp [hC]
  · cases c with
    | false => exact (frame_norm s raw).flags f fun h => hf (List.mem_append_left [Flag.C] h)
    | true => exact (frame_normCarry s raw).flags f hf

/-! ### Reset -/

section
variable (s : State)

/-- `reset()` on a core without a fault (70_reset_and_hazards.md R190). -/
theorem applyInput_reset (h : s.fault = none) : applyInput s .reset = { s with
    a := 0, x := 0, y := 0, sp := 0, p := 0x20, pending := .reset, clockMode := .running } := by
  rw [applyInput, if_pos h]
  rfl

/-- A 16-bit read of plain RAM adds its two calls to the log and changes nothing else. -/
theorem memRead16_plain {a : Addr} (h0 : isDevice s.config a = false)
    (h1 : isDevice s.config (a + 1) = false) :
    memRead16 a s = (wordOf (s.peek (a + 1)) (s.peek a),
      s.setPortLog (.read (a + 1) (s.peek (a + 1)) :: .read a (s.peek a) :: s.portLog)) := by
  simp only [memRead16, memRead_plain s h0]
  rw [memRead_plain _ (by simpa using h1)]
  rfl

theorem wordOf_eq_ofNat (hi lo : Byte) : wordOf hi lo = BitVec.ofNat 16 (hi.toNat * 256 + lo.toNat) := by
  rw [← wordOf_toNat, BitVec.ofNat_toNat, BitVec.setWidth_eq]

/-- The reset service with its vector in plain RAM (60_exceptions.md R170). -/
theorem interruptCheck_reset_plain (hp : s.pending = .reset) (h0 : isDevice s.config 0xFFFC = false)
    (h1 : isDevice s.config 0xFFFD = false) :
    interruptCheck s = { s with
      pending := .none
      pc := BitVec.ofNat 16 ((s.peek 0xFFFD).toNat * 256 + (s.peek 0xFFFC).toNat)
      portLog := .read 0xFFFD (s.peek 0xFFFD) :: .read 0xFFFC (s.peek 0xFFFC) :: s.portLog } := by
  have hread := memRead16_plain s (a := 0xFFFC) h0 h1
  simp only [interruptCheck, hp, serviceReset, jumpThroughVector, resetVector, hread, wordOf_eq_ofNat]
  rfl

end

/-- Settles O42: the values of `reset()`, then the service of its request through the vector in RAM. -/
theorem resetThenServiceGivesTheTableOfValues : Obligations.ResetThenServiceGivesTheTableOfValues := by
  refine fun s => ⟨applyInput_reset s, applyInput_faulted s .reset, fun hf h0 h1 => ?_⟩
  rw [applyInput_reset s hf]
  exact interruptCheck_reset_plain _ rfl h0 h1

/-! ### The invariant -/

theorem State.Inv.of_keeps {s t : State} (hs : s.Inv) (h : Keeps s t) : t.Inv :=
  ⟨h.const hs.constSet, h.wf hs.memWf⟩

/-- Up to the fetch a step keeps the invariant: inputs write no RAM and interrupt entry writes no bit 5. -/
theorem State.Inv.fetched {s : State} (hs : s.Inv) : (fetchInstr s.atFetch).2.Inv := by
  have hmem : (takeInputs s).mem.wf = true := by rw [takeInputs_mem]; exact hs.memWf
  constructor
  · rw [fetchInstr_p, State.atFetch, interruptCheck_getFlag _ (by decide)]
    exact takeInputs_const s hs.constSet
  · rw [fetchInstr_mem]
    exact interruptCheck_wf _ hmem

/-- Settles O51: no stage of a step clears bit 5 or breaks the canonical form. -/
theorem stepKeepsTheInvariant : Obligations.StepKeepsTheInvariant := by
  intro s t hs hstep
  obtain ⟨-, ⟨-, rfl⟩ | ⟨-, ⟨op, -, rfl⟩ | ⟨i, u, -, hexec, rfl⟩⟩⟩ := step_cases hstep
  · exact ⟨takeInputs_const s hs.constSet, by rw [takeInputs_mem]; exact hs.memWf⟩
  · exact ⟨hs.fetched.constSet, hs.fetched.memWf⟩
  · have hu : u.Inv := hs.fetched.of_keeps (exec_keeps hexec)
    exact ⟨by rw [retire_p]; exact hu.constSet, by rw [retire_mem]; exact hu.memWf⟩

/-- The first `reset()` of a core sets bit 5 and leaves its RAM. -/
theorem firstReset_inv (a x y sp p : Byte) (pc : Addr) {mem : Memory} (cfg : Config)
    (h : mem.wf = true) :
    (applyInput (State.atConstruction a x y sp p pc mem cfg) .reset).Inv := by
  rw [applyInput_reset _ rfl]
  exact ⟨(by decide : getFlag 0x20 .K = true), h⟩

/-- Settles O52: `State.reset` is the first `reset()` of one constructed core, so the general case covers it. -/
theorem resetEstablishesTheInvariant : Obligations.ResetEstablishesTheInvariant :=
  ⟨fun a x y sp p pc _ cfg h => firstReset_inv a x y sp p pc cfg h, rfl,
    firstReset_inv 0 0 0 0 0 0 Config.default rfl⟩

/-- Settles O49: the step is the inputs alone, and inputs leave RAM, the log, the count and `PC`. -/
theorem stoppedClockMakesNoPortCall : Obligations.StoppedClockMakesNoPortCall := fun s hf hc =>
  ⟨takeInputs s, step_stopped hf hc, rfl, takeInputs_portLog s, takeInputs_mem s, takeInputs_executed s,
    takeInputs_pc s, takeInputs_nil s⟩

/-! ### The history -/

section
variable (s : State)

theorem interruptCheck_log : s.portLog <:+ (interruptCheck s).portLog := by
  have jump (v : Addr) (t : State) := (frame_jumpThroughVector t v).log
  have enter (v : Addr) : s.portLog <:+ (enterInterrupt v s).portLog := by
    refine List.IsSuffix.trans ?_ (jump v _)
    have hpush := ((frame_push16 s s.pc).trans (frame_push8 (push16 s.pc s) (push16 s.pc s).p)).log
    split
    · exact hpush
    · exact hpush
  unfold interruptCheck
  split
  case h_1 => exact List.suffix_rfl
  case h_2 => exact jump resetVector s
  case h_3 => exact enter s.config.nmiVector
  case h_4 =>
    split
    · exact List.suffix_rfl
    · exact enter irqVector

theorem fetchByte_log : s.portLog <:+ (fetchByte s).2.portLog := (frame_memRead s s.pc).log

theorem fetchWord_log : s.portLog <:+ (fetchWord s).2.portLog := (frame_memRead16 s s.pc).log

theorem fetchInstr_log : s.portLog <:+ (fetchInstr s).2.portLog := by
  have hop := fetchByte_log s
  unfold fetchInstr
  dsimp only
  split
  · exact hop
  · exact hop
  · exact hop.trans (fetchByte_log _)
  · exact hop.trans (fetchWord_log _)

/-- What a step has logged by the end of its fetch comes after what was logged before. -/
theorem atFetch_log : s.portLog <:+ (fetchInstr s.atFetch).2.portLog := by
  have h := (interruptCheck_log (takeInputs s)).trans (fetchInstr_log s.atFetch)
  rwa [takeInputs_portLog] at h

@[simp] theorem atFetch_config : s.atFetch.config = s.config := by simp [State.atFetch]
@[simp] theorem atFetch_executed : s.atFetch.executed = s.executed := by simp [State.atFetch]
@[simp] theorem atFetch_fault : s.atFetch.fault = s.fault := by simp [State.atFetch]
@[simp] theorem atFetch_schedule : s.atFetch.schedule = s.schedule.tail := by simp [State.atFetch]

end

/-- Settles O54: the three ways a step can end, each with its count. -/
theorem stepOnlyAddsToTheHistory : Obligations.StepOnlyAddsToTheHistory := by
  intro s t hstep
  obtain ⟨hf, ⟨hc, rfl⟩ | ⟨hc, ⟨op, -, rfl⟩ | ⟨i, u, -, hexec, rfl⟩⟩⟩ := step_cases hstep
  · exact ⟨takeInputs_config s, takeInputs_schedule s, ⟨[], takeInputs_portLog s⟩, by simp [hc]⟩
  · obtain ⟨calls, hcalls⟩ := atFetch_log s
    exact ⟨by simp [raiseFault], by simp [raiseFault], ⟨calls, hcalls.symm⟩, by simp [raiseFault]⟩
  · have hk : Keeps _ u := exec_keeps hexec
    obtain ⟨calls, hcalls⟩ := (atFetch_log s).trans (frame_exec hexec).log
    exact ⟨by simp [hk.config], by simp [hk.schedule], ⟨calls, by rw [retire_portLog, hcalls]⟩,
      by simp [hk.executed, hk.fault, hf, hc]⟩

/-! ### Runs -/

/-- No fault, or `InvalidOpcode` of a byte that the configuration leaves unbound (60_exceptions.md R160). -/
def SafeOrInvalidOpcode (cfg : Config) (t : State) : Prop :=
  t.safe ∨ ∃ op, t.fault = some (.invalidOpcode op) ∧ decodeOpcode cfg op = none

theorem step_safeOrInvalidOpcode {s t : State} (h : step s = .next t) : SafeOrInvalidOpcode s.config t := by
  obtain ⟨hf, ⟨-, rfl⟩ | ⟨-, ⟨op, hop, rfl⟩ | ⟨i, u, -, hexec, rfl⟩⟩⟩ := step_cases h
  · exact .inl ((takeInputs_fault s).trans hf)
  · obtain ⟨-, hunbound, -⟩ := fetchInstr_error _ hop
    exact .inr ⟨op, rfl, by rwa [atFetch_config] at hunbound⟩
  · have hk : Keeps _ u := exec_keeps hexec
    exact .inl (by simp [State.safe, hk.fault, hf])

/-- What holds after `k` steps from a first reset under the configuration `cfg`. -/
structure SoundAfter (cfg : Config) (k : Nat) (t : State) : Prop where
  inv : t.Inv
  counted : t.executed ≤ k
  config : t.config = cfg
  ending : SafeOrInvalidOpcode cfg t

theorem SoundAfter.step {cfg : Config} {k : Nat} {s t : State} (hs : SoundAfter cfg k s)
    (h : step s = .next t) : SoundAfter cfg (k + 1) t := by
  obtain ⟨hconfig, -, -, hcount⟩ := stepOnlyAddsToTheHistory s t h
  have hk := hs.counted
  refine ⟨stepKeepsTheInvariant s t hs.inv h, ?_, hconfig.trans hs.config, ?_⟩
  · split at hcount <;> omega
  · rw [← hs.config]
    exact step_safeOrInvalidOpcode h

theorem SoundAfter.steps {cfg : Config} {k : Nat} {s t : State} (hs : SoundAfter cfg 0 s)
    (h : Steps k s t) : SoundAfter cfg k t := by
  induction h with
  | refl => exact hs
  | tail _ hstep ih => exact (ih hs).step hstep

/-- The start of a run: the first reset, and the inputs still to come. -/
theorem soundAfter_firstReset (a x y sp p : Byte) (pc : Addr) {mem : Memory} (cfg : Config)
    (schedule : List (List HostInput)) (h : mem.wf = true) :
    SoundAfter cfg 0
      ((applyInput (State.atConstruction a x y sp p pc mem cfg) .reset).setSchedule schedule) := by
  have hinv := firstReset_inv a x y sp p pc cfg h
  refine ⟨⟨hinv.constSet, hinv.memWf⟩, ?_, ?_, .inl ?_⟩
  · simp [State.atConstruction]
  · simp [State.atConstruction]
  · simp [State.safe, State.atConstruction]

/-- Settles O53: soundness holds after the first reset and every step carries it on. -/
theorem everyRunFromResetIsSound : Obligations.EveryRunFromResetIsSound := by
  intro k a x y sp p pc mem cfg schedule t hmem hrun
  obtain ⟨hinv, hcounted, hconfig, hending⟩ :=
    (soundAfter_firstReset a x y sp p pc cfg schedule hmem).steps hrun
  exact ⟨hinv, hcounted, hconfig, hending⟩

end Sys2Proof.Machine

/-!
SUPPORT. The proofs of the family 20_memory.md: the port and the stack as the spec's numbers state them, and
what the stack gives back.
-/

namespace Sys2Proof.Machine

open Sys2Proof.Spec

/-! ### Addresses, halves and `SP` as the spec's numbers -/

theorem addr_succ_eq_ofNat (a : Addr) : a + 1 = BitVec.ofNat 16 ((a.toNat + 1) % 65536) :=
  BitVec.eq_of_toNat_eq (by simp [BitVec.toNat_add])

theorem loByte_eq_ofNat (v : Addr) : loByte v = BitVec.ofNat 8 (v.toNat % 256) :=
  BitVec.eq_of_toNat_eq (by simp [loByte_toNat])

theorem hiByte_eq_ofNat (v : Addr) : hiByte v = BitVec.ofNat 8 (v.toNat / 256) := by
  rw [← hiByte_toNat, BitVec.ofNat_toNat, BitVec.setWidth_eq]

theorem stackAddr_eq_ofNat (sp : Byte) : stackAddr sp = BitVec.ofNat 16 (0x0100 + sp.toNat) := by
  rw [← stackAddr_toNat, BitVec.ofNat_toNat, BitVec.setWidth_eq]

theorem byte_succ_eq_ofNat (v : Byte) : v + 1 = BitVec.ofNat 8 ((v.toNat + 1) % 256) :=
  BitVec.eq_of_toNat_eq (by simp [BitVec.toNat_add])

theorem byte_pred_eq_ofNat (v : Byte) : v - 1 = BitVec.ofNat 8 ((v.toNat + 255) % 256) :=
  BitVec.eq_of_toNat_eq (by simp [BitVec.toNat_sub, Nat.add_comm])

/-! ### The memory port -/

/-- Settles O9: the laws of the port, at an address that is plain RAM. -/
theorem ramAnswersTheByteLastWritten : Obligations.RamAnswersTheByteLastWritten := by
  intro s a b v hwf hram
  have hram' : isDevice (memWrite a v s).config a = false := by rw [memWrite_config]; exact hram
  have hread : (memRead a (memWrite a v s)).1 = v := by
    rw [memRead_fst_plain _ hram', memWrite_peek s hwf, if_pos ⟨rfl, hram⟩]
  refine ⟨hread, memWrite_portLog s a v, ?_, fun hne => ?_, fun hb => ?_⟩
  · rw [memRead_portLog, hread, memWrite_portLog]
  · rw [memWrite_peek s hwf, if_neg fun h => hne h.1]
  · rw [memRead_plain s hb]
    exact ⟨rfl, rfl⟩

/-- Settles O10: both accesses are two byte accesses by definition; `addr + 1` and the halves as numbers. -/
theorem sixteenBitAccessesAreLowByteFirst : Obligations.SixteenBitAccessesAreLowByteFirst := by
  constructor
  · intro s a
    rw [← addr_succ_eq_ofNat]
    exact ⟨wordOf_toNat _ _, rfl⟩
  · intro s a v
    rw [← addr_succ_eq_ofNat, ← loByte_eq_ofNat, ← hiByte_eq_ofNat]
    rfl

/-! ### The stack -/

/-- Settles O11: a pull raises `SP` before its read, which does not look at `SP`. -/
theorem pushAndPullMoveOneByteOnTheRing : Obligations.PushAndPullMoveOneByteOnTheRing := by
  constructor
  · intro s v
    rw [← stackAddr_eq_ofNat, ← byte_pred_eq_ofNat]
    rfl
  · intro s
    dsimp only
    rw [← byte_succ_eq_ofNat, ← stackAddr_eq_ofNat]
    exact memRead_setSp s _ _

section
variable (s : State)

/-- A pull from plain RAM answers the byte in the slot above `SP`. -/
theorem pull8_fst_plain (h : StackIsRam s) : (pull8 s).1 = s.peek (stackAddr (s.sp + 1)) :=
  memRead_fst_plain _ (h (s.sp + 1))

/-- A 16-bit pull from plain RAM answers the two slots above `SP`, the low byte in the nearer. -/
theorem pull16_fst_plain (h : StackIsRam s) :
    (pull16 s).1 = wordOf (s.peek (stackAddr (s.sp + 1 + 1))) (s.peek (stackAddr (s.sp + 1))) := by
  have h' : StackIsRam (pull8 s).2 := fun v => by rw [pull8_config]; exact h v
  simp only [pull16, pull8_fst_plain _ h, pull8_fst_plain _ h', pull8_sp, State.peek, pull8_mem]

/-- The slot of the low byte after a 16-bit push to plain RAM: `SP - 1`. -/
theorem push16_peek_low (hwf : s.mem.wf = true) (h : StackIsRam s) (v : Addr) :
    (push16 v s).peek (stackAddr (s.sp - 1)) = loByte v := by
  rw [push16, push8_peek _ (push8_wf s hwf _), push8_sp, push8_config, if_pos ⟨rfl, h _⟩]

/-- The slot of the high byte after a 16-bit push to plain RAM: `SP`, which the low byte's push does not
reach because the two slots of the ring differ. -/
theorem push16_peek_high (hwf : s.mem.wf = true) (h : StackIsRam s) (v : Addr) :
    (push16 v s).peek (stackAddr s.sp) = hiByte v := by
  have hne : stackAddr s.sp ≠ stackAddr (s.sp - 1) := fun heq => by
    have := stackAddr_inj heq
    bv_omega
  rw [push16, push8_peek _ (push8_wf s hwf _), push8_sp, if_neg fun hc => hne hc.1,
    push8_peek _ hwf, if_pos ⟨rfl, h _⟩]

/-- A 16-bit pull after a 16-bit push answers the word pushed. -/
theorem pull16_push16_fst (hwf : s.mem.wf = true) (h : StackIsRam s) (v : Addr) :
    (pull16 (push16 v s)).1 = v := by
  have h' : StackIsRam (push16 v s) := fun w => by rw [push16_config]; exact h w
  rw [pull16_fst_plain _ h', push16_sp, sub_add_cancel, sub_add_cancel, push16_peek_high s hwf h,
    push16_peek_low s hwf h, wordOf_halves]

/-- A 16-bit pull after a 16-bit push leaves `SP` as it was. -/
theorem pull16_push16_sp (v : Addr) : (pull16 (push16 v s)).2.sp = s.sp := by
  rw [pull16_sp, push16_sp, sub_add_cancel, sub_add_cancel]

end

/-- Settles O12: the order of the two bytes, then the round trip through the two slots of the ring. -/
theorem pushedWordIsPulledBack : Obligations.PushedWordIsPulledBack := by
  intro s v
  refine ⟨?_, wordOf_toNat _ _, rfl, fun hwf hram =>
    ⟨pull16_push16_fst s hwf hram v, pull16_push16_sp s v⟩⟩
  rw [← loByte_eq_ofNat, ← hiByte_eq_ofNat]
  rfl

end Sys2Proof.Machine

/-!
SUPPORT. The proofs of the family 30_encoding.md: the opcode matrix, the decoder and the encoder agree with one
another, with the table by mnemonic and with the lists of unbound and tier-S bytes.
-/

namespace Sys2Proof

open Spec

/-! ### The instructions of a cell of the matrix -/

/-- The instruction is the shape's, with some operand. -/
def Shape.Shows (i : Instr) : Shape → Prop
  | .noOperand j => j = i
  | .byteOperand f => ∃ v, f v = i
  | .wordOperand f => ∃ v, f v = i

/-- The matrix shows every instruction in the cell of its opcode. -/
theorem matrix_shows (i : Instr) : ∃ sh, matrix i.opcode = some sh ∧ sh.Shows i := by
  cases i <;> dsimp only [Instr.opcode] <;> exact ⟨_, rfl, by simp [Shape.Shows]⟩

/-- The code of an instruction is one byte longer than the operand of its cell. -/
theorem Shape.EncodesAs.length_encode {op : Byte} {sh : Shape} {i : Instr} (he : sh.EncodesAs op)
    (hi : sh.Shows i) : (encode i).length = 1 + sh.operandByteCount := by
  cases sh with
  | noOperand j => rw [← hi, he]; rfl
  | byteOperand f => obtain ⟨v, rfl⟩ := hi; rw [he]; rfl
  | wordOperand f => obtain ⟨v, rfl⟩ := hi; rw [he]; rfl

theorem Shape.operandByteCount_le (sh : Shape) : sh.operandByteCount ≤ 2 := by
  cases sh <;> simp [Shape.operandByteCount]

/-! ### The decoder on the code of an instruction, and its inversion -/

/-- The tier of 30_encoding.md R55 by mnemonic and by opcode byte. -/
theorem Instr.tierS_form (i : Instr) : i.form.tierS = tierSOpcodes.contains i.opcode := by
  cases i <;> rfl

/-- The decoder knows the opcode of an instruction exactly where the instruction is bound. -/
theorem decodeOpcode_opcode (cfg : Config) (i : Instr) :
    decodeOpcode cfg i.opcode = if i.wf cfg then matrix i.opcode else none := by
  rw [decodeOpcode, Instr.wf, i.tierS_form]
  cases cfg.bindTierS <;> cases tierSOpcodes.contains i.opcode <;> rfl

/-- What the decoder answers for the opcode of a bound instruction. -/
theorem decodeOpcode_of_wf {cfg : Config} {i : Instr} (h : i.wf cfg = true) :
    ∃ sh, decodeOpcode cfg i.opcode = some sh ∧ sh.Shows i := by
  obtain ⟨sh, hsh, hi⟩ := matrix_shows i
  exact ⟨sh, by rw [decodeOpcode_opcode, if_pos h, hsh], hi⟩

theorem wf_of_decodeOpcode {cfg : Config} {i : Instr} {sh : Shape}
    (h : decodeOpcode cfg i.opcode = some sh) : i.wf cfg = true := by
  by_contra hwf
  simp [decodeOpcode_opcode, hwf] at h

/-- The opcode of an instruction is the first byte of its code. -/
theorem opcode_of_encode {i : Instr} {op : Byte} {bs : List Byte} (h : encode i = op :: bs) :
    i.opcode = op :=
  (List.cons.inj h).1

/-- Whatever decodes begins with an opcode the decoder knows, and is the code of the instruction answered
followed by the rest answered. -/
theorem decode_inv {cfg : Config} {bytes rest : List Byte} {i : Instr}
    (h : decode cfg bytes = .ok (i, rest)) :
    ∃ op sh bs, decodeOpcode cfg op = some sh ∧ encode i = op :: bs ∧ bytes = op :: bs ++ rest := by
  cases bytes with
  | nil => cases h
  | cons op tail =>
    cases hsh : decodeOpcode cfg op with
    | none => rw [decode_unbound hsh] at h; cases h
    | some sh =>
      have he : sh.EncodesAs op := matrix_encodes op sh (matrix_of_decodeOpcode hsh)
      cases sh with
      | noOperand j =>
        rw [decode_noOperand hsh] at h
        cases h
        exact ⟨op, _, [], hsh, he, rfl⟩
      | byteOperand f =>
        match tail with
        | [] => simp [decode, hsh] at h
        | v :: tail =>
          rw [decode_byteOperand hsh] at h
          cases h
          exact ⟨op, _, [v], hsh, he v, rfl⟩
      | wordOperand f =>
        match tail with
        | [] | [_] => simp [decode, hsh] at h
        | lo :: hi :: tail =>
          simp only [decode, hsh] at h
          cases h
          exact ⟨op, _, [lo, hi], hsh, by rw [he, loByte_wordOf, hiByte_wordOf], rfl⟩

/-- Where the decoder knows an opcode, it reads the code of each instruction of the opcode's cell. -/
theorem decode_encode_of_shows {cfg : Config} {op : Byte} {i : Instr} {sh : Shape}
    (hsh : decodeOpcode cfg op = some sh) (hi : sh.Shows i) (rest : List Byte) :
    decode cfg (encode i ++ rest) = .ok (i, rest) := by
  have he : sh.EncodesAs op := matrix_encodes op sh (matrix_of_decodeOpcode hsh)
  cases sh with
  | noOperand j =>
    rw [← hi, he]
    exact decode_noOperand hsh rest
  | byteOperand f =>
    obtain ⟨v, rfl⟩ := hi
    rw [he]
    exact decode_byteOperand hsh v rest
  | wordOperand f =>
    obtain ⟨v, rfl⟩ := hi
    rw [he]
    exact decode_wordOperand hsh v rest

/-- Settles O1: the cell of a bound instruction's opcode shows it, and the decoder knows the cell. -/
theorem decodeOfEncodeIsTheInstruction : Obligations.DecodeOfEncodeIsTheInstruction := by
  intro cfg i rest hwf
  obtain ⟨sh, hsh, hi⟩ := decodeOpcode_of_wf hwf
  exact decode_encode_of_shows hsh hi rest

/-- Settles O2: the inversion of the decoder; an instruction whose opcode the decoder knows is bound. -/
theorem encodeOfDecodeIsTheBytes : Obligations.EncodeOfDecodeIsTheBytes := by
  intro cfg bytes i rest h
  obtain ⟨op, sh, bs, hsh, hcode, hbytes⟩ := decode_inv h
  rw [← opcode_of_encode hcode] at hsh
  exact ⟨wf_of_decodeOpcode hsh, by rw [hcode, hbytes]⟩

/-- Settles O5: the cell of the opcode counts the operand bytes that the code has. -/
theorem firstByteTellsTheLength : Obligations.FirstByteTellsTheLength := by
  intro cfg i hwf
  obtain ⟨sh, hsh, hi⟩ := decodeOpcode_of_wf hwf
  have hlen := (matrix_encodes _ sh (matrix_of_decodeOpcode hsh)).length_encode hi
  have hle := sh.operandByteCount_le
  refine ⟨sh, hsh, hlen, rfl, ?_⟩
  simp only [List.mem_cons, List.not_mem_nil, or_false]
  omega

/-! ### The table by mnemonic -/

/-- Every instruction has the opcode that 30_encoding.md R57 gives its mnemonic and mode. -/
theorem Instr.hasItsOpcode (i : Instr) : HasItsOpcode i := by
  cases i <;> rfl

/-- Wherever the table by mnemonic of 30_encoding.md R57 gives a form an opcode, the matrix of R56 shows an
instruction of that form in the opcode's cell. -/
theorem matrix_shows_of_opcode {fm : Form} {op : Byte} (h : opcode fm = some op) :
    ∃ sh i, matrix op = some sh ∧ sh.Shows i ∧ i.form = fm := by
  cases fm with
  | read f o =>
    cases o with
    | immediate v => cases f <;> cases h <;> exact ⟨_, _, rfl, ⟨_, rfl⟩, rfl⟩
    | mem m => cases f <;> cases m <;> cases h <;> exact ⟨_, _, rfl, ⟨_, rfl⟩, rfl⟩
  | store f m => cases f <;> cases m <;> cases h <;> exact ⟨_, _, rfl, ⟨_, rfl⟩, rfl⟩
  | rmw f o =>
    cases o with
    | accumulator => cases f <;> cases h <;> exact ⟨_, _, rfl, rfl, rfl⟩
    | mem m => cases f <;> cases m <;> cases h <;> exact ⟨_, _, rfl, ⟨_, rfl⟩, rfl⟩
  | branch f d => cases f <;> cases h <;> exact ⟨_, _, rfl, ⟨_, rfl⟩, rfl⟩
  | jump a => cases h; exact ⟨_, _, rfl, ⟨_, rfl⟩, rfl⟩
  | jumpIndirect a => cases h; exact ⟨_, _, rfl, ⟨_, rfl⟩, rfl⟩
  | call a => cases h; exact ⟨_, _, rfl, ⟨_, rfl⟩, rfl⟩
  | implied f => cases f <;> cases h <;> exact ⟨_, _, rfl, rfl, rfl⟩

/-- Settles O3: the matrix supplies the instruction of a form that has an opcode; the tier by mnemonic is the
tier by opcode byte. -/
theorem opcodeMapIsTheTableByMnemonic : Obligations.OpcodeMapIsTheTableByMnemonic := by
  refine ⟨fun fm op => ⟨fun h => ?_, ?_⟩, fun i => ?_⟩
  · obtain ⟨_, i, -, -, rfl⟩ := matrix_shows_of_opcode h
    exact ⟨i, rfl, Option.some.inj (i.hasItsOpcode.symm.trans h)⟩
  · rintro ⟨i, rfl, rfl⟩
    exact i.hasItsOpcode
  · rw [i.tierS_form]
    exact List.contains_iff_mem

/-! ### The unbound bytes -/

/-- The bytes with an empty cell in the matrix, in their order, are the list of 30_encoding.md R58. -/
theorem filter_matrix_isNone :
    ((List.range 256).map (BitVec.ofNat 8)).filter (fun op => (matrix op).isNone) = unboundOpcodes := by
  decide

theorem matrix_isNone_iff (op : Byte) : (matrix op).isNone = true ↔ op ∈ unboundOpcodes := by
  have hmem : op ∈ (List.range 256).map (BitVec.ofNat 8) :=
    List.mem_map.mpr ⟨op.toNat, List.mem_range.mpr op.isLt, by simp⟩
  rw [← filter_matrix_isNone, List.mem_filter, and_iff_right hmem]

/-- The decoder does not know a byte for its tier or for its empty cell in the matrix. -/
theorem decodeOpcode_isNone_iff (cfg : Config) (op : Byte) : (decodeOpcode cfg op).isNone = true ↔
    (matrix op).isNone = true ∨ (cfg.bindTierS = false ∧ op ∈ tierSOpcodes) := by
  rw [decodeOpcode, ← List.contains_iff_mem]
  cases cfg.bindTierS <;> cases tierSOpcodes.contains op <;> simp

/-- Settles O4: the empty cells of the matrix, and the tier-S bytes where the tier is off. -/
theorem unboundBytesAreTheListedOnes : Obligations.UnboundBytesAreTheListedOnes := by
  refine ⟨rfl, fun cfg op => ?_⟩
  rw [← matrix_isNone_iff]
  exact decodeOpcode_isNone_iff cfg op

/-- Settles O6: the decoder run on each of the byte strings. -/
theorem sampleCodeDecodes : Obligations.SampleCodeDecodes := by
  unfold Obligations.SampleCodeDecodes
  decide

end Sys2Proof

/-!
SUPPORT. The proofs of the family 40_execution_and_addressing.md: the port calls of every instruction, the
effective addresses, and the stages of a step.
-/

namespace Sys2Proof.Machine

open Sys2Proof.Spec

/-! ### The port calls of an operation -/

/-- From `s` to `t` the log grew by calls of the listed kinds and addresses, in their order. -/
def Calls (s t : State) (accesses : List Access) : Prop :=
  ∃ calls : List PortCall, t.portLog = calls.reverse ++ s.portLog ∧ calls.map access = accesses

/-- One operation after another makes the calls of the first and then those of the second. -/
theorem Calls.trans {s t u : State} {as bs : List Access} (h : Calls s t as) (h' : Calls t u bs) :
    Calls s u (as ++ bs) := by
  obtain ⟨cs, hcs, rfl⟩ := h
  obtain ⟨ds, hds, rfl⟩ := h'
  exact ⟨cs ++ ds, by rw [hds, hcs, List.reverse_append, List.append_assoc], List.map_append⟩

/-- What leaves the log as it is makes no call. -/
theorem calls_silent {s t : State} (h : t.portLog = s.portLog) : Calls s t [] := ⟨[], h, rfl⟩

/-- What leaves the log as it is adds no call to those made before it. -/
theorem Calls.then_silent {s t u : State} {as : List Access} (h : Calls s t as)
    (hu : u.portLog = t.portLog) : Calls s u as := by
  have hsu := h.trans (calls_silent hu)
  rwa [List.append_nil] at hsu

section
variable (s : State)

theorem calls_memRead (a : Addr) : Calls s (memRead a s).2 [.R a] :=
  ⟨[.read a (memRead a s).1], memRead_portLog s a, rfl⟩

theorem calls_memWrite (a : Addr) (v : Byte) : Calls s (memWrite a v s) [.W a] :=
  ⟨[.write a v], memWrite_portLog s a v, rfl⟩

theorem calls_memRead16 (a : Addr) : Calls s (memRead16 a s).2 [.R a, .R (a + 1)] :=
  (calls_memRead s a).trans (calls_memRead _ (a + 1))

theorem calls_effAddr (m : MemOperand) : Calls s (effAddr m s).2 (pointerReads m s) := by
  cases m with
  | indexedIndirect zp => exact calls_memRead16 s _
  | indirectIndexed zp => exact calls_memRead16 s _
  | _ => exact calls_silent rfl

theorem calls_fetchMem (m : MemOperand) :
    Calls s (fetchMem m s).2 (pointerReads m s ++ [.R (effAddr m s).1]) :=
  (calls_effAddr s m).trans (calls_memRead _ _)

theorem calls_fetch (f : ReadFamily) (o : ReadOperand) :
    Calls s (fetch o s).2 (portCalls (.read f o) s) := by
  cases o with
  | immediate v => exact calls_silent rfl
  | mem m => exact calls_fetchMem s m

theorem calls_storeReady (m : MemOperand) : Calls s (storeReady s m)
    (pointerReads m s ++ if s.config.storePreread then [.R (effAddr m s).1] else []) := by
  unfold storeReady
  dsimp only
  rw [effAddr_config]
  split
  · exact calls_fetchMem s m
  · rw [List.append_nil]
    exact calls_effAddr s m

theorem calls_store (f : StoreFamily) (m : MemOperand) (v : Byte) :
    Calls s (store m v s) (portCalls (.store f m) s) :=
  (calls_storeReady s m).trans (calls_memWrite _ _ v)

theorem compute_portLog (f : RmwFamily) (v : Byte) : (f.compute v s).2.portLog = s.portLog := by
  obtain ⟨p, hp, -⟩ := f.compute_writes v s
  rw [hp, State.setP_portLog]

theorem calls_modify (f : RmwFamily) (o : RmwOperand) :
    Calls s (modify o f.compute s) (portCalls (.rmw f o) s) := by
  cases o with
  | accumulator => exact calls_silent (compute_portLog s f s.a)
  | mem m =>
    have hread := (calls_fetchMem s m).then_silent (compute_portLog (fetchMem m s).2 f (fetchMem m s).1)
    have hwrite := hread.trans
      (calls_memWrite _ (effAddr m s).1 (f.compute (fetchMem m s).1 (fetchMem m s).2).1)
    rwa [List.append_assoc] at hwrite

theorem branchIf_portLog (c : Bool) (d : Byte) : (branchIf c d s).portLog = s.portLog := by
  rw [branchIf_eq, State.setPc_portLog]

theorem calls_push8 (v : Byte) : Calls s (push8 v s) [.W (stackAddr s.sp)] :=
  ⟨[.write _ v], push8_portLog s v, rfl⟩

theorem calls_push16 (v : Addr) :
    Calls s (push16 v s) [.W (stackAddr s.sp), .W (stackAddr (s.sp - 1))] :=
  (calls_push8 s _).trans (calls_push8 _ _)

theorem calls_pull8 : Calls s (pull8 s).2 [.R (stackAddr (s.sp + 1))] :=
  ⟨[.read _ (pull8 s).1], pull8_portLog s, rfl⟩

theorem calls_pull16 :
    Calls s (pull16 s).2 [.R (stackAddr (s.sp + 1)), .R (stackAddr (s.sp + 2))] := by
  have h := (calls_pull8 s).trans (calls_pull8 (pull8 s).2)
  rwa [pull8_sp, BitVec.add_assoc] at h

theorem calls_pullStatus : Calls s (pullStatus s) [.R (stackAddr (s.sp + 1))] :=
  (calls_pull8 s).then_silent rfl

theorem calls_returnFromInterrupt : Calls s (returnFromInterrupt s)
    [.R (stackAddr (s.sp + 1)), .R (stackAddr (s.sp + 2)), .R (stackAddr (s.sp + 3))] := by
  have h := (calls_pullStatus s).trans ((calls_pull16 (pullStatus s)).then_silent
    (u := returnFromInterrupt s) rfl)
  rwa [pullStatus_sp, BitVec.add_assoc, BitVec.add_assoc] at h

end

/-- An instruction of each form makes the calls of the table for its form. -/
theorem calls_effect (fm : Form) (s : State) : Calls s (fm.effect s) (portCalls fm s) := by
  match fm with
  | .read f o => cases f <;> exact (calls_fetch s _ o).then_silent rfl
  | .store f m => cases f <;> exact calls_store s _ m _
  | .rmw f o => exact calls_modify s f o
  | .branch f d => cases f <;> exact calls_silent (branchIf_portLog s _ d)
  | .jump a => exact calls_silent rfl
  | .jumpIndirect a => exact (calls_memRead16 s a).then_silent rfl
  | .call a => exact (calls_push16 s _).then_silent rfl
  | .implied op =>
    cases op
    case rts => exact (calls_pull16 s).then_silent rfl
    case rti => exact calls_returnFromInterrupt s
    case pha => exact calls_push8 s _
    case php => exact calls_push8 s _
    case pla => exact (calls_pull8 s).then_silent rfl
    case plp => exact calls_pullStatus s
    all_goals exact calls_silent rfl

/-- Settles O58: the execute stage is the effect of the form, whose calls are composed of its operations'. -/
theorem portCallsAreExactlyTheTables : Obligations.PortCallsAreExactlyTheTables := by
  intro i s t h
  rw [exec_eq_effect] at h
  cases h
  exact calls_effect i.form s

/-! ### The addressing modes -/

theorem zext16_toNat (v : Byte) : (zext16 v).toNat = v.toNat := by
  have := v.isLt
  simp only [zext16, BitVec.toNat_setWidth]
  omega

theorem zext16_eq_ofNat (v : Byte) : zext16 v = BitVec.ofNat 16 v.toNat := by
  rw [← zext16_toNat, BitVec.ofNat_toNat, BitVec.setWidth_eq]

/-- The indexed sum in the zero page, which leaves it only while `ZP_INDEX_WRAP` is false (R74, R75). -/
theorem zpIndex_toNat (cfg : Config) (zp index : Byte) : (zpIndex cfg zp index).toNat =
    if cfg.zpIndexWrap then (zp.toNat + index.toNat) % 256 else zp.toNat + index.toNat := by
  have := zp.isLt
  have := index.isLt
  unfold zpIndex
  split
  · rw [zext16_toNat, BitVec.toNat_add]
  · rw [BitVec.toNat_add, zext16_toNat, zext16_toNat]
    omega

theorem add_zext16_toNat (a : Addr) (index : Byte) :
    (a + zext16 index).toNat = (a.toNat + index.toNat) % 65536 := by
  rw [BitVec.toNat_add, zext16_toNat]

/-- Settles O13: the sums of R73 to R78 as numbers. -/
theorem directModesAddressAsTheTableSays : Obligations.DirectModesAddressAsTheTableSays := by
  intro s zp addr
  refine ⟨zext16_toNat zp, zpIndex_toNat s.config zp s.x, zpIndex_toNat s.config zp s.y, rfl,
    add_zext16_toNat addr s.x, add_zext16_toNat addr s.y, ?_⟩
  simp only [List.forall_mem_cons, List.not_mem_nil, false_implies, implies_true, and_true]
  exact ⟨rfl, rfl, rfl, rfl, rfl, rfl⟩

/-- Settles O14: the pointer is one 16-bit read, and that is two byte reads, low byte first. -/
theorem indirectModesReadAPointer : Obligations.IndirectModesReadAPointer := by
  intro s zp
  have hsucc : BitVec.ofNat 16 (zp.toNat + 1) = zext16 zp + 1 := by
    rw [BitVec.ofNat_add, ← zext16_eq_ofNat]
    rfl
  dsimp only
  rw [← addr_succ_eq_ofNat, ← zext16_eq_ofNat, hsucc]
  refine ⟨⟨wordOf_toNat _ _, rfl⟩, ?_, rfl⟩
  rw [← wordOf_toNat]
  exact add_zext16_toNat _ s.y

/-- A byte sign-extended: from 128 on it stands 256 below itself, modulo 65536. -/
theorem signExtend16_toNat (v : Byte) :
    (v.signExtend 16).toNat = if v.toNat < 128 then v.toNat else v.toNat + 65280 := by
  have := v.isLt
  rw [BitVec.toNat_signExtend, BitVec.msb_eq_decide, BitVec.toNat_setWidth]
  by_cases h : v.toNat < 128
  · rw [if_pos h, if_neg (by simpa using h)]
    omega
  · rw [if_neg h, if_pos (by simpa using h)]
    omega

/-- Settles O15: bit 7 of the operand says whether 256 is taken off. -/
theorem relativeTargetIsSignedAndWraps : Obligations.RelativeTargetIsSignedAndWraps := by
  intro pc v
  rw [relTarget, BitVec.toNat_add, signExtend16_toNat]
  split <;> omega

/-- Settles O16: a fetch from memory is the effective address and one read there. -/
theorem operandIsFetchedOnce : Obligations.OperandIsFetchedOnce := by
  refine ⟨fun v s => fetch_immediate s v, fun m s => ⟨rfl, memRead_portLog _ _, ?_⟩⟩
  apply State.ext <;> simp

/-! ### The stages of a step -/

theorem portReads_length (n : Nat) (a : Addr) (s : State) : (portReads n a s).1.length = n := by
  induction n generalizing a s with
  | zero => rfl
  | succ n ih => simp [portReads, ih]

/-- Every way a list of bytes can begin with an instruction. -/
theorem decode_cases {cfg : Config} {bytes rest : List Byte} {i : Instr}
    (h : decode cfg bytes = .ok (i, rest)) :
    (∃ op, decodeOpcode cfg op = some (.noOperand i) ∧ bytes = op :: rest) ∨
    (∃ op f v, decodeOpcode cfg op = some (.byteOperand f) ∧ i = f v ∧ bytes = op :: v :: rest) ∨
    (∃ op f lo hi, decodeOpcode cfg op = some (.wordOperand f) ∧ i = f (wordOf hi lo) ∧
      bytes = op :: lo :: hi :: rest) := by
  unfold decode at h
  repeat' split at h
  all_goals cases h
  · exact .inl ⟨_, ‹_›, rfl⟩
  · exact .inr (.inl ⟨_, _, _, ‹_›, rfl, rfl⟩)
  · exact .inr (.inr ⟨_, _, _, _, ‹_›, rfl, rfl⟩)

/-- When the bytes read from `PC` upwards are the code of an instruction and nothing else, the fetch makes just
those reads, moves `PC` past them and answers the instruction (R66 to R68). -/
theorem fetchInstr_of_portReads {n : Nat} {u : State} {i : Instr}
    (h : decode u.config (portReads n u.pc u).1 = .ok (i, [])) :
    fetchInstr u = (.ok i, (portReads n u.pc u).2.setPc (u.pc + BitVec.ofNat 16 n)) := by
  have hlen := portReads_length n u.pc u
  obtain ⟨op, hsh, hb⟩ | ⟨op, f, v, hsh, rfl, hb⟩ | ⟨op, f, lo, hi, hsh, rfl, hb⟩ := decode_cases h
  all_goals
    rw [hb] at hlen
    subst hlen
    cases hb
  · exact fetchInstr_noOperand u hsh
  · exact fetchInstr_byteOperand u hsh
  · rw [fetchInstr_wordOperand u hsh]
    simp only [portReads, List.length, BitVec.add_assoc]
    rfl

/-- Reads of plain RAM answer what it holds and change nothing but the log. -/
theorem portReads_plain (n : Nat) (a : Addr) (s : State)
    (h : ∀ k, k < n → isDevice s.config (a + BitVec.ofNat 16 k) = false) :
    portReads n a s =
      ((List.range n).map fun k => s.peek (a + BitVec.ofNat 16 k),
        s.setPortLog (((List.range n).map fun k =>
          PortCall.read (a + BitVec.ofNat 16 k) (s.peek (a + BitVec.ofNat 16 k))).reverse ++ s.portLog)) := by
  induction n generalizing a s with
  | zero => rfl
  | succ n ih =>
    have hnext (k : Nat) : a + BitVec.ofNat 16 (k + 1) = a + 1 + BitVec.ofNat 16 k := by
      rw [Nat.add_comm, BitVec.ofNat_add, ← BitVec.add_assoc]
      rfl
    have ha : isDevice s.config a = false := by simpa using h 0 (Nat.succ_pos n)
    have hrest := ih (a + 1) (s.logCall (.read a (s.peek a))) fun k hk => by
      rw [logCall_config, ← hnext]
      exact h (k + 1) (Nat.succ_lt_succ hk)
    simp only [portReads, memRead_plain s ha, hrest, List.range_succ_eq_map, List.map_cons, List.map_map,
      Function.comp_def, Nat.succ_eq_add_one, hnext, List.reverse_cons, List.append_assoc]
    simp [State.logCall]

/-- A step whose reads from `PC` upwards answer the code of an instruction runs that instruction. -/
theorem step_of_portReads {s : State} {i : Instr} {n : Nat} (hf : s.fault = none)
    (hc : (takeInputs s).clockMode = .running)
    (h : decode s.atFetch.config (portReads n s.atFetch.pc s.atFetch).1 = .ok (i, [])) :
    ∃ t, exec i ((portReads n s.atFetch.pc s.atFetch).2.setPc (s.atFetch.pc + BitVec.ofNat 16 n)) = .next t ∧
      step s = .next (retire t) :=
  ⟨_, exec_eq_effect i _, step_fetched hf hc (fetchInstr_of_portReads h)⟩

/-- Bytes that decode are at least as many as the instruction is long, and so many of them are its code. -/
theorem decode_take_length {cfg : Config} {bytes rest : List Byte} {i : Instr}
    (h : decode cfg bytes = .ok (i, rest)) :
    i.length ≤ bytes.length ∧ decode cfg (bytes.take i.length) = .ok (i, []) := by
  obtain ⟨hwf, rfl⟩ := encodeOfDecodeIsTheBytes cfg bytes i rest h
  have hlen : i.length = (encode i).length := Nat.add_comm 1 _
  rw [hlen, List.take_left, List.length_append]
  exact ⟨Nat.le_add_right _ _, by simpa using decodeOfEncodeIsTheInstruction cfg i [] hwf⟩

/-- Settles O46: the fetch makes the reads that answer the code; the reads of plain RAM answer its bytes. -/
theorem stepRunsTheDecodedInstruction : Obligations.StepRunsTheDecodedInstruction := by
  refine ⟨fun s i hf hc h => step_of_portReads hf hc h, fun s i rest hf hc => ?_⟩
  intro u hdecode hplain reads v
  have hbytes : [u.peek u.pc, u.peek (u.pc + 1), u.peek (u.pc + 2)] =
      (List.range 3).map fun k => u.peek (u.pc + BitVec.ofNat 16 k) := by
    simp [List.range_succ]
  rw [hbytes] at hdecode
  obtain ⟨hle, hcode⟩ := decode_take_length hdecode
  rw [List.length_map, List.length_range] at hle
  rw [← List.map_take, List.take_range, min_eq_left hle] at hcode
  have hreads := portReads_plain i.length u.pc u hplain
  obtain ⟨t, hexec, hstep⟩ := step_of_portReads (n := i.length) hf hc (by rw [hreads]; exact hcode)
  rw [hreads] at hexec
  exact ⟨t, hexec, hstep⟩

/-- Settles O50: retiring writes the count and, where the cap is reached, the clock. -/
theorem retireCountsAndAppliesTheCap : Obligations.RetireCountsAndAppliesTheCap := by
  intro s
  refine ⟨fun m hm => ?_, fun hm => ?_⟩
  · apply State.ext <;> simp [retire_clockMode, capReached, hm]
  · apply State.ext <;> simp [retire_clockMode, capReached, hm]

end Sys2Proof.Machine

/-!
SUPPORT. The proofs of the family 41_load_store.md: what a load writes, what a store writes, and the RAM that
an instruction leaves alone.
-/

namespace Sys2Proof.Machine

open Sys2Proof.Spec

/-- An instruction of a known form completes with the effect of that form. -/
theorem exec_of_form {i : Instr} {fm : Form} (h : i.form = fm) (s : State) :
    exec i s = .next (fm.effect s) := h ▸ exec_eq_effect i s

/-! ### The RAM an instruction leaves alone -/

section
variable (s : State)

/-- A 16-bit push changes no byte of RAM but the two slots it fills. -/
theorem push16_peek_of_ne (hwf : s.mem.wf = true) (v : Addr) {b : Addr} (hhi : b ≠ stackAddr s.sp)
    (hlo : b ≠ stackAddr (s.sp - 1)) : (push16 v s).peek b = s.peek b := by
  rw [push16, push8_peek _ (push8_wf s hwf _), push8_sp, if_neg fun h => hlo h.1,
    push8_peek _ hwf, if_neg fun h => hhi h.1]

/-- A read-modify-write in memory changes no byte of RAM but the one at its effective address. -/
theorem modify_peek_of_ne (hwf : s.mem.wf = true) {f : Byte → State → Byte × State} (hf : WritesNZC f)
    (m : MemOperand) {b : Addr} (hb : b ≠ (effAddr m s).1) :
    (modify (.mem m) f s).peek b = s.peek b := by
  obtain ⟨h, -⟩ | ⟨m', hm, p, heq, -⟩ := modify_cases s hf (.mem m)
  · cases h
  · cases hm
    rw [heq, memWrite_peek _ (by simpa using hwf), if_neg fun h => hb h.1]
    simp [State.peek]

theorem modify_accumulator_mem {f : Byte → State → Byte × State} (hf : WritesNZC f) :
    (modify .accumulator f s).mem = s.mem := by
  obtain ⟨p, hp, -⟩ := hf s.a s
  simp [modify, hp]

theorem branchIf_mem (c : Bool) (d : Byte) : (branchIf c d s).mem = s.mem := by
  rw [branchIf_eq, State.setPc_mem]

/-- A form that stores nothing leaves RAM as it is. -/
theorem effect_mem {fm : Form} (h : storedAddrs fm s = []) : (fm.effect s).mem = s.mem := by
  match fm with
  | .read f o => cases f <;> exact fetch_mem s o
  | .store f m => cases h
  | .rmw f (.mem m) => cases h
  | .rmw f .accumulator => exact modify_accumulator_mem s f.compute_writes
  | .branch f d => cases f <;> exact branchIf_mem s _ d
  | .jump a => rfl
  | .jumpIndirect a => exact memRead16_mem s a
  | .call a => cases h
  | .implied op =>
    cases op
    case pha => cases h
    case php => cases h
    case pla => exact pull8_mem s
    case plp => exact pullStatus_mem s
    case rts => exact pull16_mem s
    case rti => exact returnFromInterrupt_mem s
    all_goals rfl

/-- A form that stores changes no byte of RAM but those it stores; the other forms leave RAM whole. -/
theorem effect_peek_of_not_stored {fm : Form} (hwf : s.mem.wf = true) {b : Addr}
    (hb : b ∉ storedAddrs fm s) : (fm.effect s).peek b = s.peek b := by
  have hkept (h : storedAddrs fm s = []) : (fm.effect s).peek b = s.peek b :=
    congrArg (·.read b.toNat) (effect_mem s h)
  match fm with
  | .store f m =>
    have hne : b ≠ (effAddr m s).1 := List.ne_of_not_mem_cons hb
    cases f <;> exact (store_peek s hwf m _ b).trans (if_neg fun h => hne h.1)
  | .rmw f (.mem m) => exact modify_peek_of_ne s hwf f.compute_writes m (List.ne_of_not_mem_cons hb)
  | .call a =>
    have hlo : b ≠ stackAddr (s.sp - 1) := List.ne_of_not_mem_cons (List.not_mem_of_not_mem_cons hb)
    exact push16_peek_of_ne s hwf _ (List.ne_of_not_mem_cons hb) hlo
  | .implied op =>
    cases op
    case pha => exact (push8_peek s hwf _ b).trans (if_neg fun h => List.ne_of_not_mem_cons hb h.1)
    case php => exact (push8_peek s hwf _ b).trans (if_neg fun h => List.ne_of_not_mem_cons hb h.1)
    all_goals exact hkept rfl
  | .read _ _ | .rmw _ .accumulator | .branch _ _ | .jump _ | .jumpIndirect _ => exact hkept rfl

end

/-- Settles O57: the execute stage is the effect of the form, which keeps every byte it does not store. -/
theorem memoryChangesOnlyWhereStored : Obligations.MemoryChangesOnlyWhereStored := by
  intro i s t hwf h b hb
  rw [exec_eq_effect] at h
  cases h
  exact effect_peek_of_not_stored s hwf hb

/-! ### Loads -/

section
variable (v p : Byte)

/-- `SetNZ(v)` sets N and Z as the spec's numbers state them. -/
theorem nz_setNZ : NZ (setNZ v p) v := by
  have hN : v.getLsbD 7 = decide (128 ≤ v.toNat) := BitVec.msb_eq_decide v
  have hZ : (v == 0) = decide (v.toNat = 0) := by
    rw [Bool.eq_iff_iff, beq_iff_eq, decide_eq_true_iff, ← BitVec.toNat_inj]
    rfl
  exact ⟨by rw [getFlag_setNZ, if_pos rfl, hN], by rw [getFlag_setNZ, if_neg (by decide), if_pos rfl, hZ]⟩

theorem flagsKept_setNZ : FlagsKept p (setNZ v p) [.N, .Z] := fun f hf => by
  obtain ⟨hN, hZ⟩ : f ≠ .N ∧ f ≠ .Z := by simpa using hf
  rw [getFlag_setNZ, if_neg hN, if_neg hZ]

end

section
variable (o : ReadOperand) (s : State)

theorem loadA_eq : loadA o s = ((fetch o s).2.setP (setNZ (fetch o s).1 s.p)).setA (fetch o s).1 := by
  simp [loadA, normToA_eq]

theorem loadX_eq : loadX o s = ((fetch o s).2.setP (setNZ (fetch o s).1 s.p)).setX (fetch o s).1 := by
  simp [loadX, normToX_eq]

theorem loadY_eq : loadY o s = ((fetch o s).2.setP (setNZ (fetch o s).1 s.p)).setY (fetch o s).1 := by
  simp [loadY, normToY_eq]

end

/-- Settles O17: a load is the fetch, `SetNZ` of the byte and the byte in the register. -/
theorem loadsCopyTheFetchedByte : Obligations.LoadsCopyTheFetchedByte := by
  intro i o s v
  have hNZ := nz_setNZ v s.p
  have hkept := flagsKept_setNZ v s.p
  exact ⟨fun h => ⟨i.hasItsOpcode, _, (exec_of_form h s).trans (congrArg _ (loadA_eq o s)), hNZ, hkept⟩,
    fun h => ⟨i.hasItsOpcode, _, (exec_of_form h s).trans (congrArg _ (loadX_eq o s)), hNZ, hkept⟩,
    fun h => ⟨i.hasItsOpcode, _, (exec_of_form h s).trans (congrArg _ (loadY_eq o s)), hNZ, hkept⟩⟩

/-! ### Stores -/

section
variable (s : State) (m : MemOperand) (v : Byte)

/-- A store of each family stores the register that the spec names for it. -/
theorem effect_store (f : StoreFamily) : (Form.store f m).effect s = store m (stored f s) s := by
  cases f <;> rfl

/-- A store calls the port once to write, after one read of its target with `STORE_PREREAD`. -/
theorem store_portLog : (store m v s).portLog = .write (effAddr m s).1 v ::
    if s.config.storePreread then
      .read (effAddr m s).1 (memRead (effAddr m s).1 (effAddr m s).2).1 :: (effAddr m s).2.portLog
    else (effAddr m s).2.portLog := by
  rw [store_eq, memWrite_portLog, storeReady, effAddr_config]
  split
  · rw [memRead_portLog]
  · rfl

/-- A store changes RAM, the log and the count of the host's answers alone. -/
theorem store_changes_mem_log_hostReads : store m v s = { s with
    mem := (store m v s).mem, portLog := (store m v s).portLog, hostReads := (store m v s).hostReads } := by
  apply State.ext <;> simp

end

/-- Settles O23: a store is the effective address, the optional read and one write of the register. -/
theorem storesWriteTheRegisterOnce : Obligations.StoresWriteTheRegisterOnce := by
  intro i f m s hwf h ea s1
  refine ⟨i.hasItsOpcode, store m (stored f s) s, ?_, ?_, fun b hb => ?_, store_portLog s m _,
    store_changes_mem_log_hostReads s m _⟩
  · rw [exec_of_form h, effect_store]
  · rw [store_peek s hwf]
    cases isDevice s.config (effAddr m s).1 <;> simp [ea]
  · rw [store_peek s hwf, if_neg fun hc => hb hc.1]

end Sys2Proof.Machine

/-!
SUPPORT. The proofs of the family 42_logic_arithmetic_compare.md: what the logic operations, the sum of ADC and
SBC, the comparisons and BIT leave in `A` and in the flags.
-/

namespace Sys2Proof.Machine

open Sys2Proof.Spec

/-! ### Logic -/

section
variable (o : ReadOperand) (s : State)

theorem orA_eq : orA o s =
    ((fetch o s).2.setP (setNZ (s.a ||| (fetch o s).1) s.p)).setA (s.a ||| (fetch o s).1) := by
  simp [orA, normToA_eq, -BitVec.toNat_or]

theorem andA_eq : andA o s =
    ((fetch o s).2.setP (setNZ (s.a &&& (fetch o s).1) s.p)).setA (s.a &&& (fetch o s).1) := by
  simp [andA, normToA_eq, -BitVec.toNat_and]

theorem eorA_eq : eorA o s =
    ((fetch o s).2.setP (setNZ (s.a ^^^ (fetch o s).1) s.p)).setA (s.a ^^^ (fetch o s).1) := by
  simp [eorA, normToA_eq, -BitVec.toNat_xor]

end

/-- Settles O18: a logic operation is the fetch, `SetNZ` of the bitwise result and that result in `A`. -/
theorem logicCombinesAWithTheOperand : Obligations.LogicCombinesAWithTheOperand := by
  intro i o s v
  exact ⟨fun h => ⟨i.hasItsOpcode, _, (exec_of_form h s).trans (congrArg _ (orA_eq o s)),
      nz_setNZ _ s.p, flagsKept_setNZ _ s.p⟩,
    fun h => ⟨i.hasItsOpcode, _, (exec_of_form h s).trans (congrArg _ (andA_eq o s)),
      nz_setNZ _ s.p, flagsKept_setNZ _ s.p⟩,
    fun h => ⟨i.hasItsOpcode, _, (exec_of_form h s).trans (congrArg _ (eorA_eq o s)),
      nz_setNZ _ s.p, flagsKept_setNZ _ s.p⟩⟩

/-! ### The sum of ADC and SBC -/

/-- Naming more flags as written says less. -/
theorem flagsKept_mono {p p' : Byte} {fs gs : List Flag} (h : FlagsKept p p' fs) (hsub : fs ⊆ gs) :
    FlagsKept p p' gs := fun f hf => h f fun hmem => hf (hsub hmem)

/-- The complement of an operand that SBC and the comparisons add (R104 to R107) is 255 less the operand. -/
theorem xor_0xFF_toNat (v : Byte) : (v ^^^ 0xFF).toNat = 255 - v.toNat := by
  rw [show (0xFF : Byte) = BitVec.allOnes 8 from rfl, BitVec.xor_allOnes, BitVec.toNat_not]

/-- Read as a signed byte, the complement of an operand is one below its negative. -/
theorem xor_0xFF_toInt (v : Byte) : (v ^^^ 0xFF).toInt = -v.toInt - 1 := by
  have := v.isLt
  rw [BitVec.toInt_eq_toNat_cond, BitVec.toInt_eq_toNat_cond, xor_0xFF_toNat]
  split <;> split <;> omega

theorem and_0x80_ne_zero_iff (x : Byte) : x &&& 0x80 ≠ 0 ↔ x.msb = true := by
  rw [show (0x80 : Byte) = BitVec.twoPow 8 7 from rfl, BitVec.and_twoPow, BitVec.msb_eq_getLsbD_last]
  cases x.getLsbD 7 <;> simp

/-- The V formula of R103 says that the operands have one sign and the low byte of their sum the other, which is
when the signed sum leaves the range of a signed byte. -/
theorem signsDiffer_eq_overflows {a w r : Byte} {c : Nat} (hc : c ≤ 1)
    (hr : BitVec.ofNat 8 (a.toNat + w.toNat + c) = r) :
    decide ((w ^^^ r) &&& (a ^^^ r) &&& 0x80 ≠ 0) = overflows (a.toInt + w.toInt + c) := by
  have ha := a.isLt
  have hw := w.isLt
  have hlow : r.toNat = (a.toNat + w.toNat + c) % 256 := by rw [← hr, BitVec.toNat_ofNat]
  rw [overflows, decide_eq_decide, and_0x80_ne_zero_iff, BitVec.msb_and, BitVec.msb_xor, BitVec.msb_xor,
    BitVec.toInt_eq_toNat_cond, BitVec.toInt_eq_toNat_cond]
  simp only [BitVec.msb_eq_decide, hlow, Bool.and_eq_true, bne_iff_ne, ne_eq, decide_eq_decide]
  split <;> split <;> omega

theorem flagNat_le_one (p : Byte) (f : Flag) : flagNat p f ≤ 1 := Bool.toNat_le _

/-- What the sum of ADC and SBC writes: the low byte to `A`, C from bit 8, V by the formula and so by its signed
meaning, N and Z from the byte. -/
theorem addWithCarry_writes (w : Byte) (s : State) {raw : Nat} {r : Byte}
    (hraw : s.a.toNat + w.toNat + flagNat s.p .C = raw) (hr : BitVec.ofNat 8 raw = r) :
    ∃ p, addWithCarry w s = (s.setP p).setA r ∧
      getFlag p .C = decide (256 ≤ raw) ∧
      getFlag p .V = decide ((w ^^^ r) &&& (s.a ^^^ r) &&& 0x80 ≠ 0) ∧
      getFlag p .V = overflows (s.a.toInt + w.toInt + flagNat s.p .C) ∧
      NZ p r ∧ FlagsKept s.p p [.C, .V, .N, .Z] := by
  have hc := flagNat_le_one s.p .C
  have hlt : raw < 512 := by
    have := s.a.isLt
    have := w.isLt
    omega
  have hV : getFlag (addWithCarry w s).p .V = decide ((w ^^^ r) &&& (s.a ^^^ r) &&& 0x80 ≠ 0) := by
    simp [addWithCarry, norm_snd, hraw, hr, bne, beq_eq_decide]
  have hC : getFlag (addWithCarry w s).p .C = decide (256 ≤ raw) := by
    have hbit : raw.testBit 8 = decide (256 ≤ raw) := by
      rw [Nat.testBit_eq_decide_div_mod_eq, decide_eq_decide]
      omega
    simp [addWithCarry, norm_snd, hraw, hbit]
  have hflags := (frame_addWithCarry s w).flags
  subst hraw hr
  exact ⟨_, rfl, hC, hV, hV.trans (signsDiffer_eq_overflows hc rfl), nz_setNZ _ _,
    flagsKept_mono hflags (by simp)⟩

/-- Settles O19: the sum of ADC on the byte fetched. -/
theorem adcAddsWithCarry : Obligations.AdcAddsWithCarry := by
  intro i o s h v c raw r
  have hr : BitVec.ofNat 8 raw = r := BitVec.eq_of_toNat_eq (by simp [r])
  obtain ⟨p, heq, hC, hV, hsigned, hNZ, hkept⟩ := addWithCarry_writes v (fetch o s).2
    (by rw [fetch_a, fetch_p]) hr
  simp only [fetch_a, fetch_p] at hV hsigned hkept
  exact ⟨i.hasItsOpcode, p, (exec_of_form h s).trans (congrArg _ heq), hC, hV, hsigned, hNZ, hkept⟩

/-- Settles O20: the sum of ADC on the complemented operand is 256 more than the difference. -/
theorem sbcSubtractsWithBorrow : Obligations.SbcSubtractsWithBorrow := by
  intro i o s h v w c diff r
  have hc : c ≤ 1 := flagNat_le_one s.p .C
  have hraw : ((s.a.toNat + w.toNat + c : Nat) : Int) = diff + 256 := by
    have := v.isLt
    simp only [w, diff, xor_0xFF_toNat]
    omega
  have hr : BitVec.ofNat 8 (s.a.toNat + w.toNat + c) = r := by
    apply BitVec.eq_of_toNat_eq
    simp only [r, BitVec.toNat_ofNat, BitVec.toNat_ofInt]
    omega
  have hborrow : 256 ≤ s.a.toNat + w.toNat + c ↔ 0 ≤ diff := by omega
  have hsigned : s.a.toInt + w.toInt + c = s.a.toInt - v.toInt - (1 - c) := by
    rw [xor_0xFF_toInt]
    omega
  obtain ⟨p, heq, hC, hV, hoverflow, hNZ, hkept⟩ := addWithCarry_writes w (fetch o s).2
    (by rw [fetch_a, fetch_p]) hr
  simp only [fetch_a, fetch_p] at hV hoverflow hkept
  exact ⟨i.hasItsOpcode, p, (exec_of_form h s).trans (congrArg _ heq),
    hC.trans (decide_eq_decide.mpr hborrow), hV, hoverflow.trans (congrArg _ hsigned), hNZ, hkept⟩

/-! ### Comparisons -/

/-- What a comparison writes: C says that it did not borrow, Z that it found equality, N the sign bit. -/
theorem compareWith_writes (reg v : Byte) (s : State) :
    ∃ p, compareWith reg v s = s.setP p ∧
      getFlag p .C = decide (v.toNat ≤ reg.toNat) ∧ getFlag p .Z = decide (reg = v) ∧
      getFlag p .N = decide (128 ≤ (reg - v).toNat) ∧ FlagsKept s.p p [.C, .Z, .N] := by
  have := reg.isLt
  have := v.isLt
  have hraw : reg.toNat + (v ^^^ 0xFF).toNat + 1 = 256 - v.toNat + reg.toNat := by
    rw [xor_0xFF_toNat]
    omega
  obtain ⟨p, hnorm, hN, hZ, hC, hkept⟩ :=
    normSetsNZAndTheCarryAsked (256 - v.toNat + reg.toNat) true s (by omega)
  refine ⟨p, ?_, ?_, ?_, ?_, flagsKept_mono hkept (by simp)⟩
  · rw [compareWith, hraw, hnorm]
  · rw [hC, if_pos rfl, decide_eq_decide]
    omega
  · rw [hZ, decide_eq_decide, ← BitVec.toNat_inj]
    omega
  · rw [hN, BitVec.toNat_sub]

/-- Settles O21: each is a comparison of its register with the byte fetched. -/
theorem comparesSetNZCFromTheDifference : Obligations.ComparesSetNZCFromTheDifference := by
  intro i o s v cmp
  have compared {f : ReadFamily} (h : i.form = .read f o) {reg : Byte}
      (hf : (Form.read f o).effect s = compareWith reg v (fetch o s).2) : cmp reg := by
    obtain ⟨p, heq, hC, hZ, hN, hkept⟩ := compareWith_writes reg v (fetch o s).2
    rw [fetch_p] at hkept
    exact ⟨i.hasItsOpcode, p, (exec_of_form h s).trans (congrArg _ (hf.trans heq)), hC, hZ, hN, hkept⟩
  refine ⟨fun h => compared h ?_, fun h => compared h ?_, fun h => compared h ?_⟩
  · rw [← fetch_a s o]; rfl
  · rw [← fetch_x s o]; rfl
  · rw [← fetch_y s o]; rfl

/-! ### BIT -/

/-- What BIT writes: Z from `A` and the operand, N and V from the operand alone. -/
theorem bitTest_writes (v : Byte) (s : State) :
    ∃ p, bitTest v s = s.setP p ∧
      getFlag p .Z = decide (s.a &&& v = 0) ∧ getFlag p .N = decide (128 ≤ v.toNat) ∧
      getFlag p .V = decide (64 ≤ v.toNat % 128) ∧ FlagsKept s.p p [.Z, .N, .V] := by
  have hN : v.getLsbD 7 = decide (128 ≤ v.toNat) := BitVec.msb_eq_decide v
  have hV : v.getLsbD 6 = decide (64 ≤ v.toNat % 128) := by
    rw [BitVec.getLsbD, Nat.testBit_eq_decide_div_mod_eq, decide_eq_decide]
    omega
  refine ⟨_, rfl, ?_, ?_, ?_, (frame_bitTest s v).flags⟩
  · simp [beq_eq_decide]
  · simp [← hN]
  · simp [← hV]

/-- The decoder answers nothing for the opcode of a tier-S instruction while the tier is off (R55). -/
theorem unboundWithoutTierS_of_tierS {i : Instr} (h : i.form.tierS = true) : UnboundWithoutTierS i := by
  intro cfg hcfg
  have hwf : i.wf cfg = false := by simp [Instr.wf, hcfg, h]
  simp [decodeOpcode_opcode, hwf]

/-- Settles O22: BIT is of tier S and is the test of the byte fetched. -/
theorem bitCopiesBitsSevenAndSix : Obligations.BitCopiesBitsSevenAndSix := by
  intro i o s h v
  obtain ⟨p, heq, hZ, hN, hV, hkept⟩ := bitTest_writes v (fetch o s).2
  rw [fetch_a] at hZ
  rw [fetch_p] at hkept
  exact ⟨i.hasItsOpcode, unboundWithoutTierS_of_tierS (by rw [h]; rfl), p,
    (exec_of_form h s).trans (congrArg _ heq), hZ, hN, hV, hkept⟩

end Sys2Proof.Machine

/-!
SUPPORT. The proofs of the family 43_shift_rotate_incdec.md: the result, the carry and the frame of the shifts,
rotations, increments and decrements.
-/

namespace Sys2Proof.Machine

open Sys2Proof.Spec

/-- Only the low eight bits of a raw value reach the byte. -/
theorem byteOfNat_mod (raw : Nat) : (BitVec.ofNat 8 (raw % 256) : Byte) = BitVec.ofNat 8 raw :=
  BitVec.eq_of_toNat_eq (by simp)

/-! ### The result and the carry of a family -/

/-- A status byte after a read-modify-write instruction: N and Z from the result, C the carry, the rest kept. -/
structure WritesResult (p p' : Byte) (res : Nat × Bool) : Prop where
  nz : NZ p' (BitVec.ofNat 8 res.1)
  carry : getFlag p' .C = res.2
  kept : FlagsKept p p' [.N, .Z, .C]

/-- C written after `Norm`, as LSR and ROR do, replaces the carry and leaves the rest of what `Norm` wrote. -/
theorem WritesResult.setCarry {p p' : Byte} {n : Nat} {c : Bool} (h : WritesResult p p' (n, c)) (b : Bool) :
    WritesResult p (setFlag p' .C b) (n, b) := by
  obtain ⟨⟨hN, hZ⟩, -, hkept⟩ := h
  refine ⟨⟨by simpa using hN, by simpa using hZ⟩, by simp, fun f hf => ?_⟩
  have hC : f ≠ .C := fun h => hf (by simp [h])
  rw [getFlag_setFlag, if_neg hC, hkept f hf]

/-- `Norm` of a raw value writes its low byte as the result, with bit 8 as the carry or the old carry. -/
theorem norm_writesResult (checkCarry : Bool) (s : State) {raw n : Nat} {c : Bool} (hlt : raw < 512)
    (hn : raw % 256 = n) (hc : (if checkCarry then decide (256 ≤ raw) else getFlag s.p .C) = c) :
    ∃ p, norm raw checkCarry s = (BitVec.ofNat 8 n, s.setP p) ∧ WritesResult s.p p (n, c) := by
  obtain ⟨p, hnorm, hN, hZ, hC, hkept⟩ := normSetsNZAndTheCarryAsked raw checkCarry s hlt
  subst hn hc
  have hlow : (BitVec.ofNat 8 (raw % 256) : Byte).toNat = raw % 256 := by simp
  exact ⟨p, hnorm, ⟨by rw [hlow, hN], by rw [hlow, hZ]⟩, hC, hkept⟩

/-- LSR and ROR take their carry from the operand after a `Norm` that leaves C alone. -/
theorem norm_writeCarry_writesResult (s : State) {raw n : Nat} {b c : Bool} (hlt : raw < 256) (hn : raw = n)
    (hb : b = c) : ∃ p, ((norm raw false s).1, (norm raw false s).2.writeFlag .C b) =
      (BitVec.ofNat 8 n, s.setP p) ∧ WritesResult s.p p (n, c) := by
  obtain ⟨p, hnorm, hp⟩ := norm_writesResult false s (raw := raw) (n := n) (by omega) (by omega) rfl
  subst hb
  exact ⟨_, by rw [hnorm]; rfl, hp.setCarry b⟩

section
variable (v : Byte) (s : State)

theorem getLsbD_zero_eq_odd : v.getLsbD 0 = decide (v.toNat % 2 = 1) := Nat.testBit_zero v.toNat

/-- The bit that ROL moves in at the bottom is free in the shifted value. -/
theorem shiftLeft_or_flagNat (n : Nat) : n <<< 1 ||| flagNat s.p .C = 2 * n + flagNat s.p .C := by
  have hc := flagNat_le_one s.p .C
  rw [← Nat.shiftLeft_add_eq_or_of_lt (by omega), Nat.shiftLeft_eq, Nat.mul_comm]

/-- The bit that ROR moves in at the top is free in the shifted byte. -/
theorem flagNat_or_shiftRight :
    flagNat s.p .C <<< 7 ||| v.toNat >>> 1 = v.toNat / 2 + 128 * flagNat s.p .C := by
  have := v.isLt
  rw [← Nat.shiftLeft_add_eq_or_of_lt (by omega), Nat.shiftLeft_eq, Nat.shiftRight_one]
  omega

/-- Each family computes the result and the carry of its rule (43_shift_rotate_incdec.md R110 to R115), and
writes `P` alone. -/
theorem compute_writesResult (f : RmwFamily) {res : Nat × Bool}
    (hres : rmwResult f v.toNat (getFlag s.p .C) = res) :
    ∃ p, f.compute v s = (BitVec.ofNat 8 res.1, s.setP p) ∧ WritesResult s.p p res := by
  have hv := v.isLt
  have hc := flagNat_le_one s.p .C
  subst hres
  cases f
  case asl =>
    have hraw : v.toNat <<< 1 = 2 * v.toNat := by omega
    exact norm_writesResult true s (by omega) (congrArg (· % 256) hraw)
      (decide_eq_decide.mpr (by omega))
  case rol =>
    have hraw := shiftLeft_or_flagNat s v.toNat
    exact norm_writesResult true s (by omega) (congrArg (· % 256) hraw)
      (decide_eq_decide.mpr (by omega))
  case lsr =>
    exact norm_writeCarry_writesResult s (by omega) (Nat.shiftRight_one _) (getLsbD_zero_eq_odd v)
  case ror =>
    have hraw := flagNat_or_shiftRight v s
    exact norm_writeCarry_writesResult s (by omega) hraw (getLsbD_zero_eq_odd v)
  case inc => exact norm_writesResult false s (by omega) rfl rfl
  case dec => exact norm_writesResult false s (by omega) rfl rfl

end

/-! ### Read, compute, write back -/

section
variable (f : RmwFamily) (s : State)

/-- In the accumulator mode the result goes to `A`. -/
theorem modify_accumulator_writesResult {res : Nat × Bool}
    (hres : rmwResult f s.a.toNat (getFlag s.p .C) = res) :
    ∃ p, modify .accumulator f.compute s = (s.setP p).setA (BitVec.ofNat 8 res.1) ∧
      WritesResult s.p p res := by
  obtain ⟨p, hcompute, hp⟩ := compute_writesResult s.a s f hres
  exact ⟨p, by simp only [modify, hcompute], hp⟩

/-- In a memory mode the result of the byte read is written where it was read. -/
theorem modify_mem_writesResult (m : MemOperand) {res : Nat × Bool}
    (hres : rmwResult f (fetchMem m s).1.toNat (getFlag s.p .C) = res) :
    ∃ p, modify (.mem m) f.compute s =
        memWrite (effAddr m s).1 (BitVec.ofNat 8 res.1) ((fetchMem m s).2.setP p) ∧
      WritesResult s.p p res := by
  rw [← fetchMem_p s m] at hres ⊢
  obtain ⟨p, hcompute, hp⟩ := compute_writesResult (fetchMem m s).1 (fetchMem m s).2 f hres
  refine ⟨p, ?_, hp⟩
  rw [fetchMem] at hcompute
  simp only [modify, fetchMem, hcompute]

end

/-- Settles O24: a family computes on `A` or on the byte read, and the result goes back to where it came from. -/
theorem readModifyWriteStoresTheResult : Obligations.ReadModifyWriteStoresTheResult := by
  intro i f s
  refine ⟨?_, ?_, ?_⟩
  · rintro rfl ⟨o, h⟩
    exact unboundWithoutTierS_of_tierS (by rw [h]; rfl)
  · intro h res r
    obtain ⟨p, heq, hp⟩ := modify_accumulator_writesResult f s (res := res) rfl
    exact ⟨i.hasItsOpcode, p, (exec_of_form h s).trans (congrArg _ heq), hp.nz, hp.carry, hp.kept⟩
  · intro m hwf h ea v res r
    obtain ⟨p, heq, hp⟩ := modify_mem_writesResult f s m (res := res) rfl
    have hready : ((fetchMem m s).2.setP p).mem.wf = true := by simpa using hwf
    have hflags : WritesResult s.p (memWrite ea r ((fetchMem m s).2.setP p)).p res := by simpa using hp
    refine ⟨i.hasItsOpcode, memWrite ea r ((fetchMem m s).2.setP p),
      (exec_of_form h s).trans (congrArg _ heq), ?_, fun b hb => ?_, ?_, hflags.nz, hflags.carry,
      hflags.kept, ?_⟩
    · rw [memWrite_peek _ hready]
      cases hdev : isDevice s.config ea <;> simp [hdev, State.peek]
    · rw [memWrite_peek _ hready, if_neg fun hc => hb hc.1]
      simp [State.peek]
    · rw [memWrite_portLog, State.setP_portLog]
      exact congrArg _ (memRead_portLog _ _)
    · apply State.ext <;> simp

/-- Settles O25: each normalizes its register plus 1 or plus 255 into the register. -/
theorem registerIncrementsAndDecrementsWrap : Obligations.RegisterIncrementsAndDecrementsWrap := by
  intro s up down
  have tierS : ∀ i ∈ [Instr.inx, .iny, .dex, .dey], i.form.tierS = true := by decide
  have moved {i : Instr} {raw : Nat} {setReg : State → Byte → State} (h : i.form.effect s =
      setReg (s.setP (setNZ (BitVec.ofNat 8 raw) s.p)) (BitVec.ofNat 8 raw)) :
      ∃ p, exec i s = .next (setReg (s.setP p) (BitVec.ofNat 8 (raw % 256))) ∧
        NZ p (BitVec.ofNat 8 (raw % 256)) ∧ FlagsKept s.p p [.N, .Z] := by
    rw [byteOfNat_mod]
    exact ⟨_, (exec_eq_effect i s).trans (congrArg _ h), nz_setNZ _ _, flagsKept_setNZ _ _⟩
  exact ⟨fun i hi => ⟨i.hasItsOpcode, unboundWithoutTierS_of_tierS (tierS i hi)⟩,
    moved (i := .inx) (normToX_eq _ s), moved (i := .iny) (normToY_eq _ s),
    moved (i := .dex) (normToX_eq _ s), moved (i := .dey) (normToY_eq _ s)⟩

end Sys2Proof.Machine

/-!
SUPPORT. The proofs of the family 44_branch_jump_subroutine.md: the target of a taken branch, the jumps, and the
return address that JSR pushes and RTS pulls.
-/

namespace Sys2Proof.Machine

open Sys2Proof.Spec

/-! ### Branches and jumps -/

/-- The branch of each family tests the flag that the spec names for it. -/
theorem effect_branch (f : BranchFamily) (disp : Byte) (s : State) :
    (Form.branch f disp).effect s = branchIf (taken f s.p) disp s := by
  cases f <;> rfl

theorem relTarget_eq_ofInt (pc : Addr) (disp : Byte) : relTarget pc disp = BitVec.ofInt 16
    (pc.toNat + (if disp.toNat < 128 then (disp.toNat : Int) else (disp.toNat : Int) - 256)) := by
  have htarget := relativeTargetIsSignedAndWraps pc disp
  apply BitVec.eq_of_toNat_eq
  rw [BitVec.toNat_ofInt]
  omega

/-- Settles O26: the common branch rule, on the condition and with the target of the spec. -/
theorem branchesMovePcOnTheirFlag : Obligations.BranchesMovePcOnTheirFlag := by
  intro i f disp s h
  refine ⟨i.hasItsOpcode, ?_⟩
  rw [exec_of_form h, effect_branch, branchIf_eq, relTarget_eq_ofInt]

/-- Settles O27: the pointer of the indirect JMP is one 16-bit read, and that is two byte reads. -/
theorem jumpsLoadPc : Obligations.JumpsLoadPc := by
  intro s addr
  refine ⟨Instr.hasItsOpcode _, Instr.hasItsOpcode _, exec_eq_effect _ s, ?_⟩
  dsimp only
  rw [← addr_succ_eq_ofNat, ← wordOf_eq_ofNat]
  exact exec_eq_effect _ s

/-! ### Subroutines -/

theorem addr_pred_toNat (a : Addr) : (a - 1).toNat = (a.toNat + 65535) % 65536 := by
  simp [BitVec.toNat_sub, Nat.add_comm]

theorem stackAddr_ne_pred (sp : Byte) : stackAddr sp ≠ stackAddr (sp - 1) := fun h => by
  have := stackAddr_inj h
  bv_omega

section
variable (s : State)

/-- RAM after a 16-bit push: each slot that is plain RAM holds its half, every other byte is the old one. -/
theorem push16_peek (hwf : s.mem.wf = true) (v b : Addr) : (push16 v s).peek b =
    if b = stackAddr (s.sp - 1) ∧ isDevice s.config (stackAddr (s.sp - 1)) = false then loByte v
    else if b = stackAddr s.sp ∧ isDevice s.config (stackAddr s.sp) = false then hiByte v
    else s.peek b := by
  rw [push16, push8_peek _ (push8_wf s hwf _), push8_peek s hwf, push8_sp, push8_config]

/-- A 16-bit pull is two reads, at the slots above `SP`, and then one write of `SP`. -/
theorem pull16_eq : pull16 s =
    let lo := memRead (stackAddr (s.sp + 1)) s
    let hi := memRead (stackAddr (s.sp + 2)) lo.2
    (wordOf hi.1 lo.1, hi.2.setSp (s.sp + 2)) := by
  simp only [pull16, pull8, memRead_setSp, State.setSp_sp, State.setSp_setSp, BitVec.add_assoc]
  rfl

/-- A pull does not look at `PC`, so writing it before or after is the same. -/
theorem pull16_setPc (v : Addr) :
    pull16 (s.setPc v) = ((pull16 s).1, (pull16 s).2.setPc v) := by
  simp only [pull16_eq, State.setPc_sp, memRead_setPc]
  rfl

/-- A 16-bit pull after a 16-bit push to plain RAM asks the host for no byte. -/
theorem pull16_push16_hostReads (h : StackIsRam s) (v : Addr) :
    (pull16 (push16 v s)).2.hostReads = s.hostReads := by
  simp [pull16_eq, memRead_plain, h _]

/-- RTS after JSR is a 16-bit pull after a 16-bit push, and leaves `PC` as it was. -/
theorem returnFromSubroutine_callSubroutine (hwf : s.mem.wf = true) (h : StackIsRam s) (target : Addr) :
    returnFromSubroutine (callSubroutine target s) = (pull16 (push16 (s.pc - 1) s)).2.setPc s.pc := by
  simp only [returnFromSubroutine, callSubroutine, pull16_setPc, State.setPc_setPc,
    pull16_push16_fst s hwf h, sub_add_cancel]

end

/-- Settles O28: JSR is one 16-bit push of `PC - 1` and a write of `PC`. -/
theorem jsrPushesPcMinusOne : Obligations.JsrPushesPcMinusOne := by
  intro s target hwf ret hi lo
  have hhi : hiByte (s.pc - 1) = hi := by rw [hiByte_eq_ofNat, addr_pred_toNat]
  have hlo : loByte (s.pc - 1) = lo := by rw [loByte_eq_ofNat, addr_pred_toNat]
  have hpeek := push16_peek s hwf (s.pc - 1)
  refine ⟨Instr.hasItsOpcode _, callSubroutine target s, exec_eq_effect _ s, rfl, BitVec.sub_sub _ _ _, ?_,
    fun hram => ?_, fun hram => ?_, fun b hbhi hblo => push16_peek_of_ne s hwf _ hbhi hblo, ?_⟩
  · rw [← hhi, ← hlo]
    exact push16_portLog s _
  · change (push16 (s.pc - 1) s).peek _ = hi
    rw [hpeek, if_neg fun h => stackAddr_ne_pred s.sp h.1, if_pos ⟨rfl, hram⟩, hhi]
  · change (push16 (s.pc - 1) s).peek _ = lo
    rw [hpeek, if_pos ⟨rfl, hram⟩, hlo]
  · apply State.ext <;> simp [callSubroutine]

/-- Settles O29: RTS is one 16-bit pull and a write of `PC`. -/
theorem rtsReturnsPastThePulledAddress : Obligations.RtsReturnsPastThePulledAddress := by
  intro s lo hi
  refine ⟨Instr.hasItsOpcode _, (exec_eq_effect _ s).trans (congrArg _ ?_)⟩
  rw [← wordOf_toNat, ← addr_succ_eq_ofNat]
  change returnFromSubroutine s = _
  rw [returnFromSubroutine, pull16_eq]

/-- Settles O30: the pull answers the word pushed, restores `SP` and leaves RAM as the push made it. -/
theorem rtsAfterJsrReturns : Obligations.RtsAfterJsrReturns := by
  intro s target hwf hram
  refine ⟨callSubroutine target s, (pull16 (push16 (s.pc - 1) s)).2.setPc s.pc, exec_eq_effect _ s, ?_, rfl,
    pull16_push16_sp s _, fun b hhi hlo => ?_, ?_⟩
  · rw [← returnFromSubroutine_callSubroutine s hwf hram target]
    exact exec_eq_effect _ _
  · rw [← push16_peek_of_ne s hwf (s.pc - 1) hhi hlo]
    simp [State.peek]
  · apply State.ext <;> simp [pull16_push16_hostReads s hram]

end Sys2Proof.Machine

/-!
SUPPORT. The proofs of the family 45_transfer_flag_stack.md: the byte that a transfer moves, the one flag that a
flag instruction writes, and the byte that the stack instructions push and pull.
-/

namespace Sys2Proof.Machine

open Sys2Proof.Spec

/-! ### Flag instructions -/

/-- A flag instruction is one write of the flag that the spec names for it. -/
theorem effect_flagWrite {op : ImpliedOp} {f : Flag} {b : Bool} (h : flagWrite op = some (f, b)) (s : State) :
    (Form.implied op).effect s = s.writeFlag f b := by
  cases op <;> cases h <;> rfl

/-- Settles O32: a flag instruction writes its flag, and a flag write changes no other bit of `P`. -/
theorem flagInstructionsWriteOneBit : Obligations.FlagInstructionsWriteOneBit := by
  intro i op f b s hform hwrite
  have hexec : exec i s = .next (s.writeFlag f b) := by rw [exec_of_form hform, effect_flagWrite hwrite]
  exact ⟨i.hasItsOpcode, setFlag s.p f b, hexec, by simp, (frame_writeFlag s f b).flags⟩

/-! ### Pushes -/

section
variable (s : State) (v : Byte)

/-- The slot that a push fills: plain RAM takes the byte, a device leaves RAM as it was. -/
theorem push8_peek_slot (hwf : s.mem.wf = true) : (push8 v s).peek (stackAddr s.sp) =
    if isDevice s.config (stackAddr s.sp) then s.peek (stackAddr s.sp) else v := by
  rw [push8_peek s hwf]
  cases isDevice s.config (stackAddr s.sp) <;> simp

theorem push8_peek_of_ne (hwf : s.mem.wf = true) {b : Addr} (hb : b ≠ stackAddr s.sp) :
    (push8 v s).peek b = s.peek b := by
  rw [push8_peek s hwf, if_neg fun h => hb h.1]

/-- A push changes `SP`, RAM and the log alone. -/
theorem push8_changes_sp_mem_log : push8 v s =
    { s with sp := (push8 v s).sp, mem := (push8 v s).mem, portLog := (push8 v s).portLog } := by
  apply State.ext <;> simp

end

/-- Settles O33: both are the push of one byte, whose calls, slot and frame are stated above. -/
theorem pushInstructionsStoreAOrP : Obligations.PushInstructionsStoreAOrP := by
  intro s hwf slot pushed
  have hpush (v : Byte) : pushed v (push8 v s) :=
    ⟨byte_pred_eq_ofNat s.sp, push8_portLog s v, push8_peek_slot s v hwf,
      fun _ hb => push8_peek_of_ne s v hwf hb, push8_changes_sp_mem_log s v⟩
  exact ⟨Instr.hasItsOpcode _, Instr.hasItsOpcode _, ⟨_, exec_eq_effect .pha s, hpush s.a⟩,
    _, exec_eq_effect .php s, hpush s.p⟩

/-! ### Transfers -/

section
variable (s : State) (v : Byte)

/-! `Norm` of a byte into a register is the byte itself, with N and Z from it. -/

theorem normToA_toNat : normToA v.toNat s = (s.setP (setNZ v s.p)).setA v := by simp [normToA_eq]

theorem normToX_toNat : normToX v.toNat s = (s.setP (setNZ v s.p)).setX v := by simp [normToX_eq]

theorem normToY_toNat : normToY v.toNat s = (s.setP (setNZ v s.p)).setY v := by simp [normToY_eq]

end

/-- Settles O31: the transfers but TXS normalize the source into the destination; TXS copies `X` alone. -/
theorem transfersCopyAndSetNZ : Obligations.TransfersCopyAndSetNZ := by
  intro s
  have copied {i : Instr} {v : Byte} {setReg : State → Byte → State}
      (h : i.form.effect s = setReg (s.setP (setNZ v s.p)) v) :
      ∃ p, exec i s = .next (setReg (s.setP p) v) ∧ NZ p v ∧ FlagsKept s.p p [.N, .Z] :=
    ⟨_, (exec_eq_effect i s).trans (congrArg _ h), nz_setNZ _ _, flagsKept_setNZ _ _⟩
  exact ⟨fun i _ => i.hasItsOpcode, copied (i := .tax) (normToX_toNat s s.a),
    copied (i := .txa) (normToA_toNat s s.x), copied (i := .tay) (normToY_toNat s s.a),
    copied (i := .tya) (normToA_toNat s s.y), copied (i := .tsx) (normToX_toNat s s.sp),
    exec_eq_effect .txs s⟩

/-! ### Pulls -/

section
variable (s : State)

/-- A pull is one read at the slot above `SP` and then one write of `SP`. -/
theorem pull8_eq : pull8 s =
    ((memRead (stackAddr (s.sp + 1)) s).1, (memRead (stackAddr (s.sp + 1)) s).2.setSp (s.sp + 1)) :=
  memRead_setSp s _ _

theorem pullA_eq : pullA s =
    let v := memRead (stackAddr (s.sp + 1)) s
    ((v.2.setSp (s.sp + 1)).setP (setNZ v.1 s.p)).setA v.1 := by
  simp [pullA, normToA_toNat, pull8_eq]

theorem pullStatus_eq : pullStatus s =
    let v := memRead (stackAddr (s.sp + 1)) s
    (v.2.setSp (s.sp + 1)).setP (v.1 ||| 0x20) := by
  simp [pullStatus, pull8_eq]

end

theorem flagsKept_or_const (v : Byte) : FlagsKept v (v ||| 0x20) [.K] := fun f hf =>
  (getFlag_or_const v f).trans (if_neg (List.ne_of_not_mem_cons hf))

/-- Settles O34: both pull one byte; PLA normalizes it into `A`, PLP writes it to `P` with bit 5 set. -/
theorem pullInstructionsLoadAOrP : Obligations.PullInstructionsLoadAOrP := by
  intro s
  dsimp only
  rw [← byte_succ_eq_ofNat]
  exact ⟨Instr.hasItsOpcode _, Instr.hasItsOpcode _,
    ⟨_, (exec_eq_effect .pla s).trans (congrArg _ (pullA_eq s)), nz_setNZ _ _, flagsKept_setNZ _ _⟩,
    _, (exec_eq_effect .plp s).trans (congrArg _ (pullStatus_eq s)), getFlag_or_const _ _,
    flagsKept_or_const _⟩

/-! ### NOP and WAI -/

/-- Settles O35: NOP is the identity, WAI one write of the clock; WAI is of tier S. -/
theorem nopDoesNothingAndWaiSleeps : Obligations.NopDoesNothingAndWaiSleeps := by
  intro s
  exact ⟨Instr.hasItsOpcode _, Instr.hasItsOpcode _, unboundWithoutTierS_of_tierS rfl,
    exec_eq_effect .nop s, exec_eq_effect .wai s⟩

end Sys2Proof.Machine

/-!
SUPPORT. The proofs of the family 46_system.md: the request that BRK files and what the interrupt check makes of
it, and the three bytes that RTI pulls.
-/

namespace Sys2Proof.Machine

open Sys2Proof.Spec

section
variable (s : State)

/-! ### An `irq` request on the latch -/

theorem interruptCheck_irq_masked (hp : s.pending = .irq) (hI : getFlag s.p .I = true) :
    interruptCheck s = s := by
  simp [interruptCheck, hp, hI]

theorem interruptCheck_irq_unmasked (hp : s.pending = .irq) (hI : getFlag s.p .I = false) :
    interruptCheck s = serviceIrq s := by
  simp [interruptCheck, hp, hI]

/-- On a running core there is nothing to wake, so the trigger is the request alone. -/
theorem applyInput_triggerIRQB_running (hf : s.fault = none) (hc : s.clockMode = .running) (b : Bool) :
    applyInput s (.triggerIRQB b) = requestIrq b s := by
  have hclock : (requestIrq b s).clockMode = .running := ((frame_requestIrq s b).clockMode (by simp)).trans hc
  have hwake : wake (requestIrq b s) = requestIrq b s := if_neg (by rw [hclock]; decide)
  rw [applyInput, if_pos hf]
  exact hwake

/-! ### The return from an interrupt -/

/-- The return is three reads upwards from `SP + 1`, and then one write each of `SP`, `P` and `PC`. -/
theorem returnFromInterrupt_eq : returnFromInterrupt s =
    let st := memRead (stackAddr (s.sp + 1)) s
    let lo := memRead (stackAddr (s.sp + 2)) st.2
    let hi := memRead (stackAddr (s.sp + 3)) lo.2
    ((hi.2.setSp (s.sp + 3)).setP (st.1 ||| 0x20)).setPc (wordOf hi.1 lo.1) := by
  simp only [returnFromInterrupt, pullStatus_eq, pull16_eq, memRead_setP, memRead_setSp, State.setP_sp,
    State.setSp_sp, BitVec.add_assoc]
  rfl

end

/-- Settles O36: BRK is the request that the trigger files, and a request does not look at I. -/
theorem brkFilesAnIrqRequest : Obligations.BrkFilesAnIrqRequest := by
  intro s
  have hI : getFlag (setFlag s.p .B true) .I = getFlag s.p .I :=
    (frame_writeFlag s .B true).flags .I (by decide)
  refine ⟨Instr.hasItsOpcode _, setFlag s.p .B true, exec_eq_effect .brk s, by simp,
    (frame_writeFlag s .B true).flags, fun hf hc => ?_, fun h => ?_, fun h => ?_⟩
  · rw [applyInput_triggerIRQB_running s hf hc]
    exact exec_eq_effect .brk s
  · exact interruptCheck_irq_masked _ rfl (hI.trans h)
  · exact interruptCheck_irq_unmasked _ rfl (hI.trans h)

/-- Settles O37: RTI is the return from an interrupt, and its word is the third byte over the second. -/
theorem rtiRestoresPThenPc : Obligations.RtiRestoresPThenPc := by
  intro s st lo hi
  refine ⟨Instr.hasItsOpcode _, st.1 ||| 0x20, ?_, getFlag_or_const _ _, flagsKept_or_const _⟩
  rw [← wordOf_eq_ofNat, ← returnFromInterrupt_eq s]
  exact exec_eq_effect .rti s

end Sys2Proof.Machine

/-!
SUPPORT. The proofs of the family 60_exceptions.md: the services of the three requests and the return from
them, the host's inputs, the clock, and the one fault that a step can latch.
-/

namespace Sys2Proof.Machine

open Sys2Proof.Spec

/-! ### The interrupt check -/

section
variable (s : State)

theorem interruptCheck_none (hp : s.pending = .none) : interruptCheck s = s := by
  simp [interruptCheck, hp]

theorem interruptCheck_nmi (hp : s.pending = .nmi) : interruptCheck s = serviceNmi s := by
  simp [interruptCheck, hp]

/-- Only a masked `irq` outlives the interrupt check. -/
theorem interruptCheck_pending_of_not_masked (h : ¬ (s.pending = .irq ∧ getFlag s.p .I = true)) :
    (interruptCheck s).pending = .none :=
  (interruptCheck_pending s).resolve_right fun ⟨_, hmasked⟩ => h hmasked

end

/-- Settles O38: the service is one 16-bit read, and that is two byte reads. -/
theorem resetServiceLoadsTheVector : Obligations.ResetServiceLoadsTheVector := by
  intro s hp lo hi
  have hservice : interruptCheck s = serviceReset s := by simp [interruptCheck, hp]
  rw [hservice, ← wordOf_eq_ofNat]
  rfl

/-- Settles O40: what the check leaves alone, and that nothing but a masked `irq` outlives it. -/
theorem maskedIrqStaysPending : Obligations.MaskedIrqStaysPending := by
  intro s
  refine ⟨interruptCheck_none s, interruptCheck_irq_masked s, fun _ hI => ?_, fun hp => ?_, fun hp => ?_⟩
  · exact interruptCheck_pending_of_not_masked s (by simp [hI])
  · exact interruptCheck_pending_of_not_masked s (by simp [hp])
  · exact interruptCheck_pending_of_not_masked s (by simp [hp])

/-! ### Interrupt entry -/

/-- The pushes of interrupt entry: `PC` and then `P` as held (60_exceptions.md R171). -/
def pushEntry (s : State) : State := push8 s.p (push16 s.pc s)

/-- `P` as interrupt entry leaves it: I set with `ENTRY_SETS_I`, as held without (60_exceptions.md R171). -/
def entryStatus (s : State) : Byte := if s.config.entrySetsI then setFlag s.p .I true else s.p

section
variable (s : State)

/-- Entry is its pushes, the two reads of the vector, and one write each of `P`, `PC` and the latch. -/
theorem enterInterrupt_eq (vector : Addr) : enterInterrupt vector s =
    let lo := memRead vector (pushEntry s)
    let hi := memRead (vector + 1) lo.2
    ((hi.2.setP (entryStatus s)).setPc (wordOf hi.1 lo.1)).setPending .none := by
  have hstatus : (if (pushEntry s).config.entrySetsI then (pushEntry s).writeFlag .I true else pushEntry s) =
      (pushEntry s).setP (entryStatus s) := by
    cases h : s.config.entrySetsI
    · apply State.ext <;> simp [pushEntry, entryStatus, h]
    · simp [pushEntry, entryStatus, writeFlag_eq, h]
  have henter : enterInterrupt vector s = jumpThroughVector vector ((pushEntry s).setP (entryStatus s)) := by
    rw [← hstatus, pushEntry, ← push16_p s s.pc]
    rfl
  simp only [henter, jumpThroughVector, memRead16, memRead_setP]

theorem getFlag_entryStatus_I : getFlag (entryStatus s) .I = (getFlag s.p .I || s.config.entrySetsI) := by
  cases h : s.config.entrySetsI <;> simp [entryStatus, h]

theorem flagsKept_entryStatus : FlagsKept s.p (entryStatus s) [.I] := by
  unfold entryStatus
  split
  · exact (frame_writeFlag s .I true).flags
  · exact fun _ _ => rfl

theorem pushEntry_sp : (pushEntry s).sp = s.sp - 3 := by
  simp only [pushEntry, push8_sp, push16_sp, BitVec.sub_sub]
  rfl

theorem pushEntry_portLog : (pushEntry s).portLog =
    .write (stackAddr (s.sp - 2)) s.p :: .write (stackAddr (s.sp - 1)) (loByte s.pc) ::
      .write (stackAddr s.sp) (hiByte s.pc) :: s.portLog := by
  simp only [pushEntry, push8_portLog, push16_portLog, push16_sp, BitVec.sub_sub]
  rfl

@[simp] theorem pushEntry_config : (pushEntry s).config = s.config := by simp [pushEntry]

/-- RAM after the pushes, seen from the last of them. -/
theorem pushEntry_peek (hwf : s.mem.wf = true) (b : Addr) : (pushEntry s).peek b =
    if b = stackAddr (s.sp - 2) ∧ isDevice s.config (stackAddr (s.sp - 2)) = false then s.p
    else (push16 s.pc s).peek b := by
  have hslot : (push16 s.pc s).sp = s.sp - 2 := BitVec.sub_sub _ _ _
  rw [pushEntry, push8_peek _ (push16_wf s hwf _), hslot, push16_config]

theorem pushEntry_peek_of_ne (hwf : s.mem.wf = true) {b : Addr} (hhi : b ≠ stackAddr s.sp)
    (hlo : b ≠ stackAddr (s.sp - 1)) (hp : b ≠ stackAddr (s.sp - 2)) :
    (pushEntry s).peek b = s.peek b := by
  rw [pushEntry_peek s hwf, if_neg fun h => hp h.1, push16_peek_of_ne s hwf _ hhi hlo]

theorem pushEntry_peek_status (hwf : s.mem.wf = true) (h : StackIsRam s) :
    (pushEntry s).peek (stackAddr (s.sp - 2)) = s.p := by
  rw [pushEntry_peek s hwf, if_pos ⟨rfl, h _⟩]

/-- The slots of `PC` keep its halves: the push of `P` fills a third slot of the ring. -/
theorem pushEntry_peek_pc (hwf : s.mem.wf = true) (h : StackIsRam s) :
    (pushEntry s).peek (stackAddr s.sp) = hiByte s.pc ∧
      (pushEntry s).peek (stackAddr (s.sp - 1)) = loByte s.pc := by
  have hhi : stackAddr s.sp ≠ stackAddr (s.sp - 2) := fun heq => by
    have := stackAddr_inj heq
    bv_omega
  have hlo : stackAddr (s.sp - 1) ≠ stackAddr (s.sp - 2) := fun heq => by
    have := stackAddr_inj heq
    bv_omega
  constructor
  · rw [pushEntry_peek s hwf, if_neg fun h => hhi h.1, push16_peek_high s hwf h]
  · rw [pushEntry_peek s hwf, if_neg fun h => hlo h.1, push16_peek_low s hwf h]

/-- Both requests that are delivered are the same entry, through their vectors. -/
theorem interruptCheck_enters {vector : Addr}
    (h : (s.pending = .irq ∧ getFlag s.p .I = false ∧ vector = 0xFFFE) ∨
      (s.pending = .nmi ∧ vector = s.config.nmiVector)) :
    interruptCheck s = enterInterrupt vector s := by
  obtain ⟨hp, hI, rfl⟩ | ⟨hp, rfl⟩ := h
  · exact interruptCheck_irq_unmasked s hp hI
  · exact interruptCheck_nmi s hp

end

/-- Settles O39: the check is an entry, whose pushes and reads are stated above. -/
theorem interruptEntryPushesPcAndP : Obligations.InterruptEntryPushesPcAndP := by
  intro s vector hwf hreq
  have hcheck := (interruptCheck_enters s hreq).trans (enterInterrupt_eq s vector)
  refine ⟨_, _, _, hcheck, ?_, wordOf_toNat _ _, ?_, rfl, getFlag_entryStatus_I s,
    flagsKept_entryStatus s, fun hram => ?_, fun hram => ?_, fun hram => ⟨?_, ?_⟩,
    fun b hhi hlo hp => ?_, ?_⟩
  · simp only [State.setPending_portLog, State.setPc_portLog, State.setP_portLog, memRead_portLog,
      pushEntry_portLog, loByte_eq_ofNat, hiByte_eq_ofNat]
  · simp [pushEntry_sp]
  · rw [memRead_fst_plain _ (by simpa using hram)]
    simp
  · rw [memRead_fst_plain _ (by simpa using hram)]
    simp
  · simpa using pushEntry_peek_status s hwf hram
  · obtain ⟨hhi, hlo⟩ := pushEntry_peek_pc s hwf hram
    simp only [State.setPending_peek, State.setPc_peek, State.setP_peek, memRead_peek, hhi, hlo,
      hiByte_toNat, loByte_toNat]
    omega
  · simpa using pushEntry_peek_of_ne s hwf hhi hlo hp
  · apply State.ext <;> simp [pushEntry]

/-! ### The return from an entry -/

section
variable (s : State)

/-- The return that leaves `SP` at `top` takes `P` from the slot two below it, and `PC` from `top`, high byte, and
the slot below. -/
theorem returnFromInterrupt_plain (h : StackIsRam s) {top : Byte} (hsp : s.sp = top - 3) :
    (returnFromInterrupt s).sp = top ∧
      (returnFromInterrupt s).p = s.peek (stackAddr (top - 2)) ||| 0x20 ∧
      (returnFromInterrupt s).pc = wordOf (s.peek (stackAddr top)) (s.peek (stackAddr (top - 1))) := by
  have h1 : s.sp + 1 = top - 2 := by bv_omega
  have h2 : s.sp + 2 = top - 1 := by bv_omega
  have h3 : s.sp + 3 = top := by bv_omega
  simp only [returnFromInterrupt_eq, h1, h2, h3, State.setPc_sp, State.setPc_p, State.setPc_pc, State.setP_sp,
    State.setP_p, State.setSp_sp, memRead_fst_plain, memRead_config, h _, memRead_peek, and_self]

/-- With bit 5 set already, forcing it changes nothing (10_state.md R15). -/
theorem or_const_of_const {p : Byte} (h : getFlag p .K = true) : p ||| 0x20 = p := by
  refine status_ext fun f => (getFlag_or_const p f).trans ?_
  split
  · next hf => rw [hf, h]
  · rfl

/-- A request that is delivered has a vector. -/
theorem exists_vector (h : (s.pending = .irq ∧ getFlag s.p .I = false) ∨ s.pending = .nmi) :
    ∃ vector : Addr, (s.pending = .irq ∧ getFlag s.p .I = false ∧ vector = 0xFFFE) ∨
      (s.pending = .nmi ∧ vector = s.config.nmiVector) := by
  obtain ⟨hp, hI⟩ | hp := h
  · exact ⟨_, .inl ⟨hp, hI, rfl⟩⟩
  · exact ⟨_, .inr ⟨hp, rfl⟩⟩

end

/-- Settles O41: the return pulls the three bytes that the entry is known to have left on the stack. -/
theorem rtiAfterEntryRestores : Obligations.RtiAfterEntryRestores := by
  intro s hinv hram hreq
  obtain ⟨vector, hvec⟩ := exists_vector s hreq
  obtain ⟨_, _, t, ht, -, -, hsp, hpend, -, -, -, -, hstack, hpeek, -⟩ :=
    interruptEntryPushesPcAndP s vector hinv.memWf hvec
  obtain ⟨hstatus, hword⟩ := hstack hram
  subst ht
  have hram' : StackIsRam (interruptCheck s) := fun v => by rw [interruptCheck_config]; exact hram v
  obtain ⟨hsp', hp, hpc⟩ := returnFromInterrupt_plain _ hram' hsp
  rw [hstatus, or_const_of_const hinv.constSet] at hp
  replace hpc : (returnFromInterrupt (interruptCheck s)).pc = s.pc :=
    BitVec.eq_of_toNat_eq (by rw [hpc, wordOf_toNat, hword])
  refine ⟨returnFromInterrupt (interruptCheck s), exec_eq_effect .rti _, hp, hpc, hsp',
    (returnFromInterrupt_pending _).trans hpend, fun b hb0 hb1 hb2 => ?_, ?_⟩
  · rw [← hpeek b hb0 hb1 hb2, State.peek, returnFromInterrupt_mem]
    rfl
  · apply State.ext
    case h_p => exact hp
    case h_pc => exact hpc
    case h_sp => exact hsp'
    all_goals simp

/-! ### The host's inputs -/

/-- The clock mode after a trigger: it ends `waitForInterrupt` and no other mode (60_exceptions.md R180). -/
def ClockMode.woken (c : ClockMode) : ClockMode := if c = .waitForInterrupt then .running else c

theorem ClockMode.woken_ne (c : ClockMode) : c.woken ≠ .waitForInterrupt := by
  cases c <;> decide

theorem ClockMode.woken_of_ne {c : ClockMode} (h : c ≠ .waitForInterrupt) : c.woken = c := if_neg h

theorem setFlag_setFlag (p : Byte) (f : Flag) (b b' : Bool) :
    setFlag (setFlag p f b) f b' = setFlag p f b' := by
  refine status_ext fun g => ?_
  simp only [getFlag_setFlag]
  split <;> rfl

section
variable (s : State)

theorem wake_eq : wake s = s.setClockMode s.clockMode.woken := by
  unfold wake ClockMode.woken
  split <;> rfl

theorem applyInput_triggerIRQB (hf : s.fault = none) (b : Bool) : applyInput s (.triggerIRQB b) =
    ((s.setP (setFlag s.p .B b)).setPending .irq).setClockMode s.clockMode.woken := by
  rw [applyInput, if_pos hf]
  exact wake_eq _

theorem applyInput_triggerNMIB (hf : s.fault = none) : applyInput s .triggerNMIB =
    (s.setPending .nmi).setClockMode s.clockMode.woken := by
  rw [applyInput, if_pos hf]
  exact wake_eq _

/-- On a core that is not asleep a trigger is its request alone. -/
theorem applyInput_triggerIRQB_awake (hf : s.fault = none) (hc : s.clockMode ≠ .waitForInterrupt) (b : Bool) :
    applyInput s (.triggerIRQB b) = (s.setP (setFlag s.p .B b)).setPending .irq := by
  rw [applyInput_triggerIRQB s hf, ClockMode.woken_of_ne hc]
  rfl

theorem applyInput_triggerNMIB_awake (hf : s.fault = none) (hc : s.clockMode ≠ .waitForInterrupt) :
    applyInput s .triggerNMIB = s.setPending .nmi := by
  rw [applyInput_triggerNMIB s hf, ClockMode.woken_of_ne hc]
  rfl

theorem applyInput_startClock (hf : s.fault = none) :
    applyInput s .startClock = s.setClockMode .running := if_pos hf

theorem applyInput_pauseClock (hf : s.fault = none) :
    applyInput s .pauseClock = s.setClockMode .paused := if_pos hf

end

/-- Settles O43: each input is the writes stated above. -/
theorem hostInputsWriteTheLatchAndTheClock : Obligations.HostInputsWriteTheLatchAndTheClock := by
  intro s woken
  refine ⟨fun hf => ⟨fun b => ?_, applyInput_triggerNMIB s hf, applyInput_startClock s hf,
    applyInput_pauseClock s hf⟩, fun hf i => applyInput_faulted s i hf⟩
  exact ⟨setFlag s.p .B b, applyInput_triggerIRQB s hf b, by simp, (frame_writeFlag s .B b).flags⟩

/-- Settles O44: the first input leaves the core awake, so the second is its request alone. -/
theorem lastTriggerWins : Obligations.LastTriggerWins := by
  intro s b b' hf
  have hirq := applyInput_triggerIRQB s hf
  have hnmi := applyInput_triggerNMIB s hf
  have hfault (i : HostInput) : (applyInput s i).fault = none := (applyInput_fault s i).trans hf
  have irqAwake : (applyInput s (.triggerIRQB b)).clockMode ≠ .waitForInterrupt := by
    rw [hirq]
    exact ClockMode.woken_ne _
  have nmiAwake : (applyInput s .triggerNMIB).clockMode ≠ .waitForInterrupt := by
    rw [hnmi]
    exact ClockMode.woken_ne _
  have resetAwake : (applyInput s .reset).clockMode ≠ .waitForInterrupt := by
    simp [applyInput_reset s hf]
  rw [applyInput_triggerIRQB_awake _ (hfault _) nmiAwake, applyInput_triggerNMIB_awake _ (hfault _) irqAwake,
    applyInput_triggerIRQB_awake _ (hfault _) irqAwake, applyInput_triggerNMIB_awake _ (hfault _) nmiAwake,
    applyInput_triggerNMIB_awake _ (hfault _) resetAwake,
    applyInput_triggerIRQB_awake _ (hfault _) resetAwake]
  refine ⟨?_, rfl, by simp, rfl, rfl, ?_, ?_, ?_, rfl, by simp, ?_, rfl, rfl, _, rfl, by simp,
    (frame_writeFlag _ .B b).flags⟩
  · rw [hnmi, hirq]
    rfl
  · rw [hirq]
    simp
  · exact interruptCheck_pending_of_not_masked _ (by simp)
  · simp only [hirq, State.setClockMode_p, State.setPending_p, State.setP_p, setFlag_setFlag]
    rfl
  · rw [hnmi]
    rfl

/-! ### The clock -/

/-- The clock mode after an instruction: WAI ends `running`, and no other instruction writes it. -/
theorem exec_clockMode {i : Instr} {s t : State} (h : exec i s = .next t) :
    t.clockMode = if i = .wai then .waitForInterrupt else s.clockMode := by
  split
  · next hi =>
    subst hi
    cases h
    rfl
  · next hi =>
    exact (frame_exec h).clockMode fun hmem => hi (i.writes_of_mem_regs _ hmem)

theorem capReached_iff (cap : Option Nat) (n : Nat) :
    capReached cap n = true ↔ ∃ m, cap = some m ∧ m ≤ n := by
  cases cap <;> simp [capReached]

/-- Settles O45: the inputs' writes of the clock, and at retirement the cap over what the instruction wrote. -/
theorem clockModeFollowsTheTable : Obligations.ClockModeFollowsTheTable := by
  constructor
  · intro s hf
    refine ⟨by rw [applyInput_reset s hf], fun b => ?_, ?_, by rw [applyInput_startClock s hf]; rfl,
      by rw [applyInput_pauseClock s hf]; rfl⟩
    · rw [applyInput_triggerIRQB s hf, State.setClockMode_clockMode]
      cases s.clockMode <;> rfl
    · rw [applyInput_triggerNMIB s hf, State.setClockMode_clockMode]
      cases s.clockMode <;> rfl
  · intro i s t hrun h
    have hk : Keeps s t := exec_keeps h
    rw [retire_clockMode, exec_clockMode h, hrun, hk.config, hk.executed]
    exact if_congr (capReached_iff _ _) rfl rfl

/-! ### The one fault of a step -/

/-- A running core that fetches an unbound byte latches the fault in the state that one read left. -/
theorem step_unbound {s : State} (hf : s.fault = none) (hc : (takeInputs s).clockMode = .running)
    (h : decodeOpcode s.atFetch.config (memRead s.atFetch.pc s.atFetch).1 = none) :
    step s = .next (raiseFault (.invalidOpcode (memRead s.atFetch.pc s.atFetch).1)
      ((memRead s.atFetch.pc s.atFetch).2.setPc (s.atFetch.pc + 1))) := by
  rw [step_running hf hc]
  simp only [State.atFetch] at h ⊢
  simp only [coreStep, fetchInstr, fetchByte, h]

/-- A core without a fault answers a next state, whatever it fetches (60_exceptions.md R160). -/
theorem exists_step {s : State} (hf : s.fault = none) : ∃ t, step s = .next t := by
  by_cases hc : (takeInputs s).clockMode = .running
  · rw [step_running hf hc, coreStep]
    split
    · exact ⟨_, rfl⟩
    · rw [exec_eq_effect]
      exact ⟨_, rfl⟩
  · exact ⟨_, step_stopped hf hc⟩

/-- Settles O47: the step is one read and the fault, and a faulted core takes no step. -/
theorem unboundOpcodeLatchesInvalidOpcode : Obligations.UnboundOpcodeLatchesInvalidOpcode := by
  intro s op hf hc u hop hunbound
  subst hop
  refine ⟨_, step_unbound hf hc hunbound, rfl, rfl, memRead_portLog u u.pc, ?_, ?_, step_faulted rfl⟩
  · simp [raiseFault]
  · apply State.ext <;> simp [raiseFault, u]

/-- Settles O48: a next state always exists, and what a step can leave in the fault record is known. -/
theorem onlyInvalidOpcodeEndsARun : Obligations.OnlyInvalidOpcodeEndsARun := by
  refine fun s => ⟨fun hf => ?_, fun r hr => ⟨step_faulted hr, fun i => ?_⟩⟩
  · obtain ⟨t, ht⟩ := exists_step hf
    exact ⟨t, ht, step_safeOrInvalidOpcode ht⟩
  · exact applyInput_faulted s i (by simp [hr])

end Sys2Proof.Machine
